-- ==== Sys2Proof/Word.lean ====
section
/-! DEFINITION. The word types of the hardware: every host event moves one byte (20_memory.md R102); nibbles are
the RTC cells (10_state.md R59); a host address has 24 bits and an event word 40 (30_encoding.md R140). -/

namespace Sys2Proof

/-- The byte that every host event moves (R102). -/
abbrev Byte := BitVec 8

/-- One cell of the RTC's date and time memory (R59). -/
abbrev Nibble := BitVec 4

/-- An address of the MMIO register space (R101). -/
abbrev Addr16 := BitVec 16

/-- A host address, a cursor or a data-ROM offset (R40, R100). -/
abbrev Addr24 := BitVec 24

/-- An event word (R140). -/
abbrev EventWord := BitVec 40

end Sys2Proof
end

