-- ==== Sys2Proof/Machine/Operands.lean ====
section
/-! DEFINITION. Operand assembly and the byte view of multi-byte registers (20_memory.md R102, 30_encoding.md R142,
R147, 10_state.md R33): byte lane k of a register is bits 8k+7 to 8k, seen at the k-th of its addresses. -/

namespace Sys2Proof.Machine

/-- Byte lane `k` of a register (R33, R102). -/
def lane {w : Nat} (k : Nat) (v : BitVec w) : Byte := v.extractLsb' (8 * k) 8

/-- A register with byte lane `k` replaced by a written byte, every other bit kept (R102, R142). -/
def setLane {w : Nat} (k : Nat) (v : BitVec w) (d8 : Byte) : BitVec w :=
  (v &&& ~~~(((0xFF#8).setWidth w) <<< (8 * k))) ||| ((d8.setWidth w) <<< (8 * k))

/-- The low `n` bits a write mask keeps of a written byte; the rest are discarded (R142, R177). -/
def keepLow (n : Nat) (d8 : Byte) : BitVec n := d8.setWidth n

/-- One bit of a written byte (R142). -/
def keepBit (k : Nat) (d8 : Byte) : Bool := d8.getLsbD k

/-- `zext_8`: a field at the low bits of a read byte, the bits the register does not hold reading 0 (R147). -/
def asByte {n : Nat} (v : BitVec n) : Byte := v.setWidth 8

/-- A one-bit field at bit `k` of a read byte, every other bit 0 (R147). -/
def bitAt (k : Nat) (b : Bool) : Byte := (BitVec.ofBool b).setWidth 8 <<< k

end Sys2Proof.Machine
end

