-- ==== Sys2Proof/Syntax.lean ====
section
/-! DEFINITION. The events (00_scope.md R2, 30_encoding.md R140): one constructor per row of opcode_table.json. `bank`
is the address byte 31:24 of an RD or WR word, which the dispatcher ignores (20_memory.md R101); `d8` is the data byte
of a write. -/

namespace Sys2Proof

/-- An event of the machine: what plays the part of an instruction (R2, R140). -/
inductive Instr where
  -- Decompression front-end, 41_decompression.md
  /-- `RD 0x4800` DDATA (R200). -/
  | rdDdata (bank : Byte)
  /-- `WR 0x4800` DDATA (R201). -/
  | wrDdata (bank d8 : Byte)
  /-- `RD 0x4801` DTBL0 (R202). -/
  | rdDtbl0 (bank : Byte)
  /-- `WR 0x4801` DTBL0 (R203). -/
  | wrDtbl0 (bank d8 : Byte)
  /-- `RD 0x4802` DTBL1 (R204). -/
  | rdDtbl1 (bank : Byte)
  /-- `WR 0x4802` DTBL1 (R205). -/
  | wrDtbl1 (bank d8 : Byte)
  /-- `RD 0x4803` DTBL2 (R206). -/
  | rdDtbl2 (bank : Byte)
  /-- `WR 0x4803` DTBL2 (R207). -/
  | wrDtbl2 (bank d8 : Byte)
  /-- `RD 0x4804` DIDX (R208). -/
  | rdDidx (bank : Byte)
  /-- `WR 0x4804` DIDX (R209). -/
  | wrDidx (bank d8 : Byte)
  /-- `RD 0x4805` DAUX0 (R210). -/
  | rdDaux0 (bank : Byte)
  /-- `WR 0x4805` DAUX0 (R211). -/
  | wrDaux0 (bank d8 : Byte)
  /-- `RD 0x4806` DAUX1 (R212). -/
  | rdDaux1 (bank : Byte)
  /-- `WR 0x4806` DAUX1 (R213). -/
  | wrDaux1 (bank d8 : Byte)
  /-- `RD 0x4807` DAUX2 (R214). -/
  | rdDaux2 (bank : Byte)
  /-- `WR 0x4807` DAUX2 (R215). -/
  | wrDaux2 (bank d8 : Byte)
  /-- `RD 0x4808` DAUX3 (R216). -/
  | rdDaux3 (bank : Byte)
  /-- `WR 0x4808` DAUX3 (R217). -/
  | wrDaux3 (bank d8 : Byte)
  /-- `RD 0x4809` DLEN0 (R218). -/
  | rdDlen0 (bank : Byte)
  /-- `WR 0x4809` DLEN0 (R219). -/
  | wrDlen0 (bank d8 : Byte)
  /-- `RD 0x480A` DLEN1 (R220). -/
  | rdDlen1 (bank : Byte)
  /-- `WR 0x480A` DLEN1 (R221). -/
  | wrDlen1 (bank d8 : Byte)
  /-- `RD 0x480B` DAUX4 (R222). -/
  | rdDaux4 (bank : Byte)
  /-- `WR 0x480B` DAUX4 (R223). -/
  | wrDaux4 (bank d8 : Byte)
  /-- `RD 0x480C` DSTAT (R224). -/
  | rdDstat (bank : Byte)
  /-- `WR 0x480C` DSTAT (R225). -/
  | wrDstat (bank d8 : Byte)
  -- Data port, 42_data_port.md
  /-- `RD 0x4810` PADATA (R240). -/
  | rdPadata (bank : Byte)
  /-- `WR 0x4810` PADATA (R241). -/
  | wrPadata (bank d8 : Byte)
  /-- `RD 0x4811` PAADR0 (R242). -/
  | rdPaadr0 (bank : Byte)
  /-- `WR 0x4811` PAADR0 (R243). -/
  | wrPaadr0 (bank d8 : Byte)
  /-- `RD 0x4812` PAADR1 (R244). -/
  | rdPaadr1 (bank : Byte)
  /-- `WR 0x4812` PAADR1 (R245). -/
  | wrPaadr1 (bank d8 : Byte)
  /-- `RD 0x4813` PAADR2 (R246). -/
  | rdPaadr2 (bank : Byte)
  /-- `WR 0x4813` PAADR2 (R247). -/
  | wrPaadr2 (bank d8 : Byte)
  /-- `RD 0x4814` PBINC0 (R248). -/
  | rdPbinc0 (bank : Byte)
  /-- `WR 0x4814` PBINC0 (R249). -/
  | wrPbinc0 (bank d8 : Byte)
  /-- `RD 0x4815` PBINC1 (R250). -/
  | rdPbinc1 (bank : Byte)
  /-- `WR 0x4815` PBINC1 (R251). -/
  | wrPbinc1 (bank d8 : Byte)
  /-- `RD 0x4816` PBADR0 (R252). -/
  | rdPbadr0 (bank : Byte)
  /-- `WR 0x4816` PBADR0 (R253). -/
  | wrPbadr0 (bank d8 : Byte)
  /-- `RD 0x4817` PBADR1 (R254). -/
  | rdPbadr1 (bank : Byte)
  /-- `WR 0x4817` PBADR1 (R255). -/
  | wrPbadr1 (bank d8 : Byte)
  /-- `RD 0x4818` PMODE (R256). -/
  | rdPmode (bank : Byte)
  /-- `WR 0x4818` PMODE (R257). -/
  | wrPmode (bank d8 : Byte)
  /-- `RD 0x4819` PBADR2 (R258). -/
  | rdPbadr2 (bank : Byte)
  /-- `WR 0x4819` PBADR2 (R259). -/
  | wrPbadr2 (bank d8 : Byte)
  /-- `RD 0x481A` PBDATA (R270). -/
  | rdPbdata (bank : Byte)
  /-- `WR 0x481A` PBDATA (R271). -/
  | wrPbdata (bank d8 : Byte)
  -- Math unit, 43_math.md
  /-- `RD 0x4820` MOPA0 (R290). -/
  | rdMopa0 (bank : Byte)
  /-- `WR 0x4820` MOPA0 (R291). -/
  | wrMopa0 (bank d8 : Byte)
  /-- `RD 0x4821` MOPA1 (R292). -/
  | rdMopa1 (bank : Byte)
  /-- `WR 0x4821` MOPA1 (R293). -/
  | wrMopa1 (bank d8 : Byte)
  /-- `RD 0x4822` MAUX0 (R294). -/
  | rdMaux0 (bank : Byte)
  /-- `WR 0x4822` MAUX0 (R295). -/
  | wrMaux0 (bank d8 : Byte)
  /-- `RD 0x4823` MAUX1 (R296). -/
  | rdMaux1 (bank : Byte)
  /-- `WR 0x4823` MAUX1 (R297). -/
  | wrMaux1 (bank d8 : Byte)
  /-- `RD 0x4824` MOPM0 (R298). -/
  | rdMopm0 (bank : Byte)
  /-- `WR 0x4824` MOPM0 (R299). -/
  | wrMopm0 (bank d8 : Byte)
  /-- `RD 0x4825` MOPM1 (R300). -/
  | rdMopm1 (bank : Byte)
  /-- `WR 0x4825` MOPM1 (R301). -/
  | wrMopm1 (bank d8 : Byte)
  /-- `RD 0x4826` MOPD0 (R302). -/
  | rdMopd0 (bank : Byte)
  /-- `WR 0x4826` MOPD0 (R303). -/
  | wrMopd0 (bank d8 : Byte)
  /-- `RD 0x4827` MOPD1 (R304). -/
  | rdMopd1 (bank : Byte)
  /-- `WR 0x4827` MOPD1 (R305). -/
  | wrMopd1 (bank d8 : Byte)
  /-- `RD 0x4828` MRES0 (R306). -/
  | rdMres0 (bank : Byte)
  /-- `WR 0x4828` MRES0 (R307). -/
  | wrMres0 (bank d8 : Byte)
  /-- `RD 0x4829` MRES1 (R308). -/
  | rdMres1 (bank : Byte)
  /-- `WR 0x4829` MRES1 (R309). -/
  | wrMres1 (bank d8 : Byte)
  /-- `RD 0x482A` MRES2 (R310). -/
  | rdMres2 (bank : Byte)
  /-- `WR 0x482A` MRES2 (R311). -/
  | wrMres2 (bank d8 : Byte)
  /-- `RD 0x482B` MRES3 (R312). -/
  | rdMres3 (bank : Byte)
  /-- `WR 0x482B` MRES3 (R313). -/
  | wrMres3 (bank d8 : Byte)
  /-- `RD 0x482C` MREM0 (R314). -/
  | rdMrem0 (bank : Byte)
  /-- `WR 0x482C` MREM0 (R315). -/
  | wrMrem0 (bank d8 : Byte)
  /-- `RD 0x482D` MREM1 (R316). -/
  | rdMrem1 (bank : Byte)
  /-- `WR 0x482D` MREM1 (R317). -/
  | wrMrem1 (bank d8 : Byte)
  /-- `RD 0x482E` MSIGN (R318). -/
  | rdMsign (bank : Byte)
  /-- `WR 0x482E` MSIGN (R319). -/
  | wrMsign (bank d8 : Byte)
  /-- `RD 0x482F` MSTAT (R320). -/
  | rdMstat (bank : Byte)
  /-- `WR 0x482F` MSTAT (R321). -/
  | wrMstat (bank d8 : Byte)
  -- Memory-mapping unit, 44_mmu_windows.md
  /-- `RD 0x4830` MMBANK0 (R340). -/
  | rdMmbank0 (bank : Byte)
  /-- `WR 0x4830` MMBANK0 (R341). -/
  | wrMmbank0 (bank d8 : Byte)
  /-- `RD 0x4831` MMBANK1 (R342). -/
  | rdMmbank1 (bank : Byte)
  /-- `WR 0x4831` MMBANK1 (R343). -/
  | wrMmbank1 (bank d8 : Byte)
  /-- `RD 0x4832` MMBANK2 (R344). -/
  | rdMmbank2 (bank : Byte)
  /-- `WR 0x4832` MMBANK2 (R345). -/
  | wrMmbank2 (bank d8 : Byte)
  /-- `RD 0x4833` MMBANK3 (R346). -/
  | rdMmbank3 (bank : Byte)
  /-- `WR 0x4833` MMBANK3 (R347). -/
  | wrMmbank3 (bank d8 : Byte)
  /-- `RD 0x4834` MMSIZE (R348). -/
  | rdMmsize (bank : Byte)
  /-- `WR 0x4834` MMSIZE (R349). -/
  | wrMmsize (bank d8 : Byte)
  -- Real-time clock, 45_rtc.md
  /-- `RD 0x4840` RTCEN (R371). -/
  | rdRtcen (bank : Byte)
  /-- `WR 0x4840` RTCEN (R372). -/
  | wrRtcen (bank d8 : Byte)
  /-- `RD 0x4841` RTCDATA (R381). -/
  | rdRtcdata (bank : Byte)
  /-- `WR 0x4841` RTCDATA (R376). -/
  | wrRtcdata (bank d8 : Byte)
  /-- `RD 0x4842` RTCSTAT (R384). -/
  | rdRtcstat (bank : Byte)
  /-- `WR 0x4842` RTCSTAT (R383). -/
  | wrRtcstat (bank d8 : Byte)
  -- Unmapped addresses in range, 30_encoding.md R146
  /-- `RD 0x480D` UNMAPPED_480D (R174). -/
  | rdUnmapped480D (bank : Byte)
  /-- `WR 0x480D` UNMAPPED_480D (R175). -/
  | wrUnmapped480D (bank d8 : Byte)
  /-- `RD 0x480E` UNMAPPED_480E (R174). -/
  | rdUnmapped480E (bank : Byte)
  /-- `WR 0x480E` UNMAPPED_480E (R175). -/
  | wrUnmapped480E (bank d8 : Byte)
  /-- `RD 0x480F` UNMAPPED_480F (R174). -/
  | rdUnmapped480F (bank : Byte)
  /-- `WR 0x480F` UNMAPPED_480F (R175). -/
  | wrUnmapped480F (bank d8 : Byte)
  /-- `RD 0x481B` UNMAPPED_481B (R174). -/
  | rdUnmapped481B (bank : Byte)
  /-- `WR 0x481B` UNMAPPED_481B (R175). -/
  | wrUnmapped481B (bank d8 : Byte)
  /-- `RD 0x481C` UNMAPPED_481C (R174). -/
  | rdUnmapped481C (bank : Byte)
  /-- `WR 0x481C` UNMAPPED_481C (R175). -/
  | wrUnmapped481C (bank d8 : Byte)
  /-- `RD 0x481D` UNMAPPED_481D (R174). -/
  | rdUnmapped481D (bank : Byte)
  /-- `WR 0x481D` UNMAPPED_481D (R175). -/
  | wrUnmapped481D (bank d8 : Byte)
  /-- `RD 0x481E` UNMAPPED_481E (R174). -/
  | rdUnmapped481E (bank : Byte)
  /-- `WR 0x481E` UNMAPPED_481E (R175). -/
  | wrUnmapped481E (bank d8 : Byte)
  /-- `RD 0x481F` UNMAPPED_481F (R174). -/
  | rdUnmapped481F (bank : Byte)
  /-- `WR 0x481F` UNMAPPED_481F (R175). -/
  | wrUnmapped481F (bank d8 : Byte)
  /-- `RD 0x4835` UNMAPPED_4835 (R174). -/
  | rdUnmapped4835 (bank : Byte)
  /-- `WR 0x4835` UNMAPPED_4835 (R175). -/
  | wrUnmapped4835 (bank d8 : Byte)
  /-- `RD 0x4836` UNMAPPED_4836 (R174). -/
  | rdUnmapped4836 (bank : Byte)
  /-- `WR 0x4836` UNMAPPED_4836 (R175). -/
  | wrUnmapped4836 (bank d8 : Byte)
  /-- `RD 0x4837` UNMAPPED_4837 (R174). -/
  | rdUnmapped4837 (bank : Byte)
  /-- `WR 0x4837` UNMAPPED_4837 (R175). -/
  | wrUnmapped4837 (bank d8 : Byte)
  /-- `RD 0x4838` UNMAPPED_4838 (R174). -/
  | rdUnmapped4838 (bank : Byte)
  /-- `WR 0x4838` UNMAPPED_4838 (R175). -/
  | wrUnmapped4838 (bank d8 : Byte)
  /-- `RD 0x4839` UNMAPPED_4839 (R174). -/
  | rdUnmapped4839 (bank : Byte)
  /-- `WR 0x4839` UNMAPPED_4839 (R175). -/
  | wrUnmapped4839 (bank d8 : Byte)
  /-- `RD 0x483A` UNMAPPED_483A (R174). -/
  | rdUnmapped483A (bank : Byte)
  /-- `WR 0x483A` UNMAPPED_483A (R175). -/
  | wrUnmapped483A (bank d8 : Byte)
  /-- `RD 0x483B` UNMAPPED_483B (R174). -/
  | rdUnmapped483B (bank : Byte)
  /-- `WR 0x483B` UNMAPPED_483B (R175). -/
  | wrUnmapped483B (bank d8 : Byte)
  /-- `RD 0x483C` UNMAPPED_483C (R174). -/
  | rdUnmapped483C (bank : Byte)
  /-- `WR 0x483C` UNMAPPED_483C (R175). -/
  | wrUnmapped483C (bank d8 : Byte)
  /-- `RD 0x483D` UNMAPPED_483D (R174). -/
  | rdUnmapped483D (bank : Byte)
  /-- `WR 0x483D` UNMAPPED_483D (R175). -/
  | wrUnmapped483D (bank d8 : Byte)
  /-- `RD 0x483E` UNMAPPED_483E (R174). -/
  | rdUnmapped483E (bank : Byte)
  /-- `WR 0x483E` UNMAPPED_483E (R175). -/
  | wrUnmapped483E (bank d8 : Byte)
  /-- `RD 0x483F` UNMAPPED_483F (R174). -/
  | rdUnmapped483F (bank : Byte)
  /-- `WR 0x483F` UNMAPPED_483F (R175). -/
  | wrUnmapped483F (bank d8 : Byte)
  -- The clock loop and the windows, 46_clock_loop.md and 44_mmu_windows.md
  /-- `TICK`, one chip cycle (R410). -/
  | tick
  /-- `WINRD`, a host window read (R350). -/
  | winrd (a24 : Addr24)
  /-- `WINWR`, a host window write (R351). -/
  | winwr (a24 : Addr24) (d8 : Byte)
  -- Addresses outside the MMIO block, 40_dispatcher.md
  /-- `RD` outside 0x4800 to 0x4842 (R172). -/
  | rdOutOfRange (a24 : Addr24)
  /-- `WR` outside 0x4800 to 0x4842 (R173). -/
  | wrOutOfRange (a24 : Addr24) (d8 : Byte)
  deriving DecidableEq, Repr

end Sys2Proof
end

