-- ==== Sys2Proof/WellFormed.lean ====
section
/-! DEFINITION. Which events are well formed. Every operand's width is in its type; what is left to check is that an
out-of-range event is out of range (40_dispatcher.md R172, R173): an address inside the block has a row of its own. -/

namespace Sys2Proof

/-- `a16 < 0x4800` or `a16 > 0x4842`, on the low 16 bits of a host address (R101, R172). -/
def outOfRange (a24 : Addr24) : Bool :=
  (a24.extractLsb' 0 16).toNat < 0x4800 || 0x4842 < (a24.extractLsb' 0 16).toNat

/-- The checks on an event's operands (R143, R172, R173). -/
def Instr.wellFormed : Instr → Bool
  | .rdOutOfRange a24 => outOfRange a24
  | .wrOutOfRange a24 _ => outOfRange a24
  | .rdDdata _ => true
  | .wrDdata _ _ => true
  | .rdDtbl0 _ => true
  | .wrDtbl0 _ _ => true
  | .rdDtbl1 _ => true
  | .wrDtbl1 _ _ => true
  | .rdDtbl2 _ => true
  | .wrDtbl2 _ _ => true
  | .rdDidx _ => true
  | .wrDidx _ _ => true
  | .rdDaux0 _ => true
  | .wrDaux0 _ _ => true
  | .rdDaux1 _ => true
  | .wrDaux1 _ _ => true
  | .rdDaux2 _ => true
  | .wrDaux2 _ _ => true
  | .rdDaux3 _ => true
  | .wrDaux3 _ _ => true
  | .rdDlen0 _ => true
  | .wrDlen0 _ _ => true
  | .rdDlen1 _ => true
  | .wrDlen1 _ _ => true
  | .rdDaux4 _ => true
  | .wrDaux4 _ _ => true
  | .rdDstat _ => true
  | .wrDstat _ _ => true
  | .rdPadata _ => true
  | .wrPadata _ _ => true
  | .rdPaadr0 _ => true
  | .wrPaadr0 _ _ => true
  | .rdPaadr1 _ => true
  | .wrPaadr1 _ _ => true
  | .rdPaadr2 _ => true
  | .wrPaadr2 _ _ => true
  | .rdPbinc0 _ => true
  | .wrPbinc0 _ _ => true
  | .rdPbinc1 _ => true
  | .wrPbinc1 _ _ => true
  | .rdPbadr0 _ => true
  | .wrPbadr0 _ _ => true
  | .rdPbadr1 _ => true
  | .wrPbadr1 _ _ => true
  | .rdPmode _ => true
  | .wrPmode _ _ => true
  | .rdPbadr2 _ => true
  | .wrPbadr2 _ _ => true
  | .rdPbdata _ => true
  | .wrPbdata _ _ => true
  | .rdMopa0 _ => true
  | .wrMopa0 _ _ => true
  | .rdMopa1 _ => true
  | .wrMopa1 _ _ => true
  | .rdMaux0 _ => true
  | .wrMaux0 _ _ => true
  | .rdMaux1 _ => true
  | .wrMaux1 _ _ => true
  | .rdMopm0 _ => true
  | .wrMopm0 _ _ => true
  | .rdMopm1 _ => true
  | .wrMopm1 _ _ => true
  | .rdMopd0 _ => true
  | .wrMopd0 _ _ => true
  | .rdMopd1 _ => true
  | .wrMopd1 _ _ => true
  | .rdMres0 _ => true
  | .wrMres0 _ _ => true
  | .rdMres1 _ => true
  | .wrMres1 _ _ => true
  | .rdMres2 _ => true
  | .wrMres2 _ _ => true
  | .rdMres3 _ => true
  | .wrMres3 _ _ => true
  | .rdMrem0 _ => true
  | .wrMrem0 _ _ => true
  | .rdMrem1 _ => true
  | .wrMrem1 _ _ => true
  | .rdMsign _ => true
  | .wrMsign _ _ => true
  | .rdMstat _ => true
  | .wrMstat _ _ => true
  | .rdMmbank0 _ => true
  | .wrMmbank0 _ _ => true
  | .rdMmbank1 _ => true
  | .wrMmbank1 _ _ => true
  | .rdMmbank2 _ => true
  | .wrMmbank2 _ _ => true
  | .rdMmbank3 _ => true
  | .wrMmbank3 _ _ => true
  | .rdMmsize _ => true
  | .wrMmsize _ _ => true
  | .rdRtcen _ => true
  | .wrRtcen _ _ => true
  | .rdRtcdata _ => true
  | .wrRtcdata _ _ => true
  | .rdRtcstat _ => true
  | .wrRtcstat _ _ => true
  | .rdUnmapped480D _ => true
  | .wrUnmapped480D _ _ => true
  | .rdUnmapped480E _ => true
  | .wrUnmapped480E _ _ => true
  | .rdUnmapped480F _ => true
  | .wrUnmapped480F _ _ => true
  | .rdUnmapped481B _ => true
  | .wrUnmapped481B _ _ => true
  | .rdUnmapped481C _ => true
  | .wrUnmapped481C _ _ => true
  | .rdUnmapped481D _ => true
  | .wrUnmapped481D _ _ => true
  | .rdUnmapped481E _ => true
  | .wrUnmapped481E _ _ => true
  | .rdUnmapped481F _ => true
  | .wrUnmapped481F _ _ => true
  | .rdUnmapped4835 _ => true
  | .wrUnmapped4835 _ _ => true
  | .rdUnmapped4836 _ => true
  | .wrUnmapped4836 _ _ => true
  | .rdUnmapped4837 _ => true
  | .wrUnmapped4837 _ _ => true
  | .rdUnmapped4838 _ => true
  | .wrUnmapped4838 _ _ => true
  | .rdUnmapped4839 _ => true
  | .wrUnmapped4839 _ _ => true
  | .rdUnmapped483A _ => true
  | .wrUnmapped483A _ _ => true
  | .rdUnmapped483B _ => true
  | .wrUnmapped483B _ _ => true
  | .rdUnmapped483C _ => true
  | .wrUnmapped483C _ _ => true
  | .rdUnmapped483D _ => true
  | .wrUnmapped483D _ _ => true
  | .rdUnmapped483E _ => true
  | .wrUnmapped483E _ _ => true
  | .rdUnmapped483F _ => true
  | .wrUnmapped483F _ _ => true
  | .tick => true
  | .winrd _ => true
  | .winwr _ _ => true

end Sys2Proof
end

