-- ==== Sys2Proof/Decode.lean ====
section
/-! DEFINITION. The decoder of event words (30_encoding.md R140, R143, R144) and, after it, the encoder. The decoder
reads the class, checks the bits that must be 0 and selects the row of the register map (R145, R146) by the low 16
address bits; the encoder writes each event's class, address and data fields. -/

namespace Sys2Proof

/-- Why a word is not an event (R144). -/
inductive DecodeError where
  /-- `cls` is 101, 110 or 111 -/
  | reservedClass
  /-- bits 36:32 are not 0 -/
  | nonzeroZ
  /-- a TICK with a nonzero address field -/
  | nonzeroAddress
  /-- an RD, a WINRD or a TICK with a nonzero data field -/
  | nonzeroData
  deriving DecidableEq, Repr

/-- Bits 39:37, the event class (R140). -/
def clsField (w : EventWord) : BitVec 3 := w.extractLsb' 37 3

/-- Bits 36:32, which must be 0 (R140). -/
def zField (w : EventWord) : BitVec 5 := w.extractLsb' 32 5

/-- Bits 31:8, the host address (R140). -/
def addrField (w : EventWord) : Addr24 := w.extractLsb' 8 24

/-- Bits 31:24, the address bits the dispatcher ignores (R101). -/
def bankField (w : EventWord) : Byte := w.extractLsb' 24 8

/-- Bits 23:8, the address the dispatcher uses (R140, R101). -/
def a16Field (w : EventWord) : Addr16 := w.extractLsb' 8 16

/-- Bits 7:0, the data byte (R140). -/
def dataField (w : EventWord) : Byte := w.extractLsb' 0 8

/-- One row of the register map: an address, its read event and its write event (R145, R180). -/
structure MmioRow where
  /-- the address `a16` -/
  addr : Addr16
  /-- the read event, from the ignored address byte -/
  rd : Byte → Instr
  /-- the write event, from the ignored address byte and the data byte -/
  wr : Byte → Byte → Instr

/-- The decompression front-end, 0x4800 to 0x480C (R145). -/
def decompRows : List MmioRow :=
  [ ⟨0x4800#16, .rdDdata, .wrDdata⟩
  , ⟨0x4801#16, .rdDtbl0, .wrDtbl0⟩
  , ⟨0x4802#16, .rdDtbl1, .wrDtbl1⟩
  , ⟨0x4803#16, .rdDtbl2, .wrDtbl2⟩
  , ⟨0x4804#16, .rdDidx, .wrDidx⟩
  , ⟨0x4805#16, .rdDaux0, .wrDaux0⟩
  , ⟨0x4806#16, .rdDaux1, .wrDaux1⟩
  , ⟨0x4807#16, .rdDaux2, .wrDaux2⟩
  , ⟨0x4808#16, .rdDaux3, .wrDaux3⟩
  , ⟨0x4809#16, .rdDlen0, .wrDlen0⟩
  , ⟨0x480A#16, .rdDlen1, .wrDlen1⟩
  , ⟨0x480B#16, .rdDaux4, .wrDaux4⟩
  , ⟨0x480C#16, .rdDstat, .wrDstat⟩ ]

/-- The data port, 0x4810 to 0x481A (R145). -/
def portRows : List MmioRow :=
  [ ⟨0x4810#16, .rdPadata, .wrPadata⟩
  , ⟨0x4811#16, .rdPaadr0, .wrPaadr0⟩
  , ⟨0x4812#16, .rdPaadr1, .wrPaadr1⟩
  , ⟨0x4813#16, .rdPaadr2, .wrPaadr2⟩
  , ⟨0x4814#16, .rdPbinc0, .wrPbinc0⟩
  , ⟨0x4815#16, .rdPbinc1, .wrPbinc1⟩
  , ⟨0x4816#16, .rdPbadr0, .wrPbadr0⟩
  , ⟨0x4817#16, .rdPbadr1, .wrPbadr1⟩
  , ⟨0x4818#16, .rdPmode, .wrPmode⟩
  , ⟨0x4819#16, .rdPbadr2, .wrPbadr2⟩
  , ⟨0x481A#16, .rdPbdata, .wrPbdata⟩ ]

/-- The math unit, 0x4820 to 0x482F (R145). -/
def mathRows : List MmioRow :=
  [ ⟨0x4820#16, .rdMopa0, .wrMopa0⟩
  , ⟨0x4821#16, .rdMopa1, .wrMopa1⟩
  , ⟨0x4822#16, .rdMaux0, .wrMaux0⟩
  , ⟨0x4823#16, .rdMaux1, .wrMaux1⟩
  , ⟨0x4824#16, .rdMopm0, .wrMopm0⟩
  , ⟨0x4825#16, .rdMopm1, .wrMopm1⟩
  , ⟨0x4826#16, .rdMopd0, .wrMopd0⟩
  , ⟨0x4827#16, .rdMopd1, .wrMopd1⟩
  , ⟨0x4828#16, .rdMres0, .wrMres0⟩
  , ⟨0x4829#16, .rdMres1, .wrMres1⟩
  , ⟨0x482A#16, .rdMres2, .wrMres2⟩
  , ⟨0x482B#16, .rdMres3, .wrMres3⟩
  , ⟨0x482C#16, .rdMrem0, .wrMrem0⟩
  , ⟨0x482D#16, .rdMrem1, .wrMrem1⟩
  , ⟨0x482E#16, .rdMsign, .wrMsign⟩
  , ⟨0x482F#16, .rdMstat, .wrMstat⟩ ]

/-- The memory-mapping unit, 0x4830 to 0x4834 (R145). -/
def mmuRows : List MmioRow :=
  [ ⟨0x4830#16, .rdMmbank0, .wrMmbank0⟩
  , ⟨0x4831#16, .rdMmbank1, .wrMmbank1⟩
  , ⟨0x4832#16, .rdMmbank2, .wrMmbank2⟩
  , ⟨0x4833#16, .rdMmbank3, .wrMmbank3⟩
  , ⟨0x4834#16, .rdMmsize, .wrMmsize⟩ ]

/-- The real-time clock, 0x4840 to 0x4842 (R145). -/
def rtcRows : List MmioRow :=
  [ ⟨0x4840#16, .rdRtcen, .wrRtcen⟩
  , ⟨0x4841#16, .rdRtcdata, .wrRtcdata⟩
  , ⟨0x4842#16, .rdRtcstat, .wrRtcstat⟩ ]

/-- The addresses in range that have no register (R146). -/
def unmappedRows : List MmioRow :=
  [ ⟨0x480D#16, .rdUnmapped480D, .wrUnmapped480D⟩
  , ⟨0x480E#16, .rdUnmapped480E, .wrUnmapped480E⟩
  , ⟨0x480F#16, .rdUnmapped480F, .wrUnmapped480F⟩
  , ⟨0x481B#16, .rdUnmapped481B, .wrUnmapped481B⟩
  , ⟨0x481C#16, .rdUnmapped481C, .wrUnmapped481C⟩
  , ⟨0x481D#16, .rdUnmapped481D, .wrUnmapped481D⟩
  , ⟨0x481E#16, .rdUnmapped481E, .wrUnmapped481E⟩
  , ⟨0x481F#16, .rdUnmapped481F, .wrUnmapped481F⟩
  , ⟨0x4835#16, .rdUnmapped4835, .wrUnmapped4835⟩
  , ⟨0x4836#16, .rdUnmapped4836, .wrUnmapped4836⟩
  , ⟨0x4837#16, .rdUnmapped4837, .wrUnmapped4837⟩
  , ⟨0x4838#16, .rdUnmapped4838, .wrUnmapped4838⟩
  , ⟨0x4839#16, .rdUnmapped4839, .wrUnmapped4839⟩
  , ⟨0x483A#16, .rdUnmapped483A, .wrUnmapped483A⟩
  , ⟨0x483B#16, .rdUnmapped483B, .wrUnmapped483B⟩
  , ⟨0x483C#16, .rdUnmapped483C, .wrUnmapped483C⟩
  , ⟨0x483D#16, .rdUnmapped483D, .wrUnmapped483D⟩
  , ⟨0x483E#16, .rdUnmapped483E, .wrUnmapped483E⟩
  , ⟨0x483F#16, .rdUnmapped483F, .wrUnmapped483F⟩ ]

/-- The whole block 0x4800 to 0x4842 (R145, R146). -/
def mmioRows : List MmioRow :=
  decompRows ++ portRows ++ mathRows ++ mmuRows ++ rtcRows ++ unmappedRows

/-- The row of an address, if it is in the block (R143). -/
def mmioRow (a : Addr16) : Option MmioRow :=
  mmioRows.find? fun r => r.addr == a

/-- An MMIO read event: the row of `a16`, else out of range (R143, R170). -/
def decodeRead (w : EventWord) : Instr :=
  match mmioRow (a16Field w) with
  | some r => r.rd (bankField w)
  | none => .rdOutOfRange (addrField w)

/-- An MMIO write event: the row of `a16`, else out of range (R143, R171). -/
def decodeWrite (w : EventWord) : Instr :=
  match mmioRow (a16Field w) with
  | some r => r.wr (bankField w) (dataField w)
  | none => .wrOutOfRange (addrField w) (dataField w)

/-- Requires the data field to be 0 (R140). -/
def requireNoData (w : EventWord) (i : Instr) : Except DecodeError Instr :=
  if dataField w = 0 then .ok i else .error .nonzeroData

/-- The event a word spells, or why it spells none (R143, R144). Total on every 40-bit word. -/
def decode (w : EventWord) : Except DecodeError Instr :=
  if zField w = 0 then
    match (clsField w).toNat with
    | 0 => requireNoData w (decodeRead w)
    | 1 => .ok (decodeWrite w)
    | 2 => if addrField w = 0 then requireNoData w .tick else .error .nonzeroAddress
    | 3 => requireNoData w (.winrd (addrField w))
    | 4 => .ok (.winwr (addrField w) (dataField w))
    | _ => .error .reservedClass
  else .error .nonzeroZ

/-- The instruction the decoder reads from a table row's word of `nbits` bits; the bits above them are 0. -/
def decodeTableWord (nbits w : Nat) : Option Instr :=
  match decode (BitVec.ofNat 40 (w % 2 ^ nbits)) with
  | .ok i => some i
  | .error _ => none

/-- An event word from its fields, `z` being 0 (R140). -/
def eventWord (cls : BitVec 3) (a24 : Addr24) (d8 : Byte) : EventWord :=
  cls ++ (0#5 ++ (a24 ++ d8))

/-- The word of an MMIO read of `a16`. -/
def rdWord (bank : Byte) (a16 : Addr16) : EventWord := eventWord 0b000#3 (bank ++ a16) 0

/-- The word of an MMIO write of `a16`. -/
def wrWord (bank d8 : Byte) (a16 : Addr16) : EventWord := eventWord 0b001#3 (bank ++ a16) d8

/-- The word of an event (R140, and the address column of R145 and R146). -/
def encode : Instr → EventWord
  | .rdDdata b => rdWord b 0x4800#16
  | .wrDdata b d => wrWord b d 0x4800#16
  | .rdDtbl0 b => rdWord b 0x4801#16
  | .wrDtbl0 b d => wrWord b d 0x4801#16
  | .rdDtbl1 b => rdWord b 0x4802#16
  | .wrDtbl1 b d => wrWord b d 0x4802#16
  | .rdDtbl2 b => rdWord b 0x4803#16
  | .wrDtbl2 b d => wrWord b d 0x4803#16
  | .rdDidx b => rdWord b 0x4804#16
  | .wrDidx b d => wrWord b d 0x4804#16
  | .rdDaux0 b => rdWord b 0x4805#16
  | .wrDaux0 b d => wrWord b d 0x4805#16
  | .rdDaux1 b => rdWord b 0x4806#16
  | .wrDaux1 b d => wrWord b d 0x4806#16
  | .rdDaux2 b => rdWord b 0x4807#16
  | .wrDaux2 b d => wrWord b d 0x4807#16
  | .rdDaux3 b => rdWord b 0x4808#16
  | .wrDaux3 b d => wrWord b d 0x4808#16
  | .rdDlen0 b => rdWord b 0x4809#16
  | .wrDlen0 b d => wrWord b d 0x4809#16
  | .rdDlen1 b => rdWord b 0x480A#16
  | .wrDlen1 b d => wrWord b d 0x480A#16
  | .rdDaux4 b => rdWord b 0x480B#16
  | .wrDaux4 b d => wrWord b d 0x480B#16
  | .rdDstat b => rdWord b 0x480C#16
  | .wrDstat b d => wrWord b d 0x480C#16
  | .rdPadata b => rdWord b 0x4810#16
  | .wrPadata b d => wrWord b d 0x4810#16
  | .rdPaadr0 b => rdWord b 0x4811#16
  | .wrPaadr0 b d => wrWord b d 0x4811#16
  | .rdPaadr1 b => rdWord b 0x4812#16
  | .wrPaadr1 b d => wrWord b d 0x4812#16
  | .rdPaadr2 b => rdWord b 0x4813#16
  | .wrPaadr2 b d => wrWord b d 0x4813#16
  | .rdPbinc0 b => rdWord b 0x4814#16
  | .wrPbinc0 b d => wrWord b d 0x4814#16
  | .rdPbinc1 b => rdWord b 0x4815#16
  | .wrPbinc1 b d => wrWord b d 0x4815#16
  | .rdPbadr0 b => rdWord b 0x4816#16
  | .wrPbadr0 b d => wrWord b d 0x4816#16
  | .rdPbadr1 b => rdWord b 0x4817#16
  | .wrPbadr1 b d => wrWord b d 0x4817#16
  | .rdPmode b => rdWord b 0x4818#16
  | .wrPmode b d => wrWord b d 0x4818#16
  | .rdPbadr2 b => rdWord b 0x4819#16
  | .wrPbadr2 b d => wrWord b d 0x4819#16
  | .rdPbdata b => rdWord b 0x481A#16
  | .wrPbdata b d => wrWord b d 0x481A#16
  | .rdMopa0 b => rdWord b 0x4820#16
  | .wrMopa0 b d => wrWord b d 0x4820#16
  | .rdMopa1 b => rdWord b 0x4821#16
  | .wrMopa1 b d => wrWord b d 0x4821#16
  | .rdMaux0 b => rdWord b 0x4822#16
  | .wrMaux0 b d => wrWord b d 0x4822#16
  | .rdMaux1 b => rdWord b 0x4823#16
  | .wrMaux1 b d => wrWord b d 0x4823#16
  | .rdMopm0 b => rdWord b 0x4824#16
  | .wrMopm0 b d => wrWord b d 0x4824#16
  | .rdMopm1 b => rdWord b 0x4825#16
  | .wrMopm1 b d => wrWord b d 0x4825#16
  | .rdMopd0 b => rdWord b 0x4826#16
  | .wrMopd0 b d => wrWord b d 0x4826#16
  | .rdMopd1 b => rdWord b 0x4827#16
  | .wrMopd1 b d => wrWord b d 0x4827#16
  | .rdMres0 b => rdWord b 0x4828#16
  | .wrMres0 b d => wrWord b d 0x4828#16
  | .rdMres1 b => rdWord b 0x4829#16
  | .wrMres1 b d => wrWord b d 0x4829#16
  | .rdMres2 b => rdWord b 0x482A#16
  | .wrMres2 b d => wrWord b d 0x482A#16
  | .rdMres3 b => rdWord b 0x482B#16
  | .wrMres3 b d => wrWord b d 0x482B#16
  | .rdMrem0 b => rdWord b 0x482C#16
  | .wrMrem0 b d => wrWord b d 0x482C#16
  | .rdMrem1 b => rdWord b 0x482D#16
  | .wrMrem1 b d => wrWord b d 0x482D#16
  | .rdMsign b => rdWord b 0x482E#16
  | .wrMsign b d => wrWord b d 0x482E#16
  | .rdMstat b => rdWord b 0x482F#16
  | .wrMstat b d => wrWord b d 0x482F#16
  | .rdMmbank0 b => rdWord b 0x4830#16
  | .wrMmbank0 b d => wrWord b d 0x4830#16
  | .rdMmbank1 b => rdWord b 0x4831#16
  | .wrMmbank1 b d => wrWord b d 0x4831#16
  | .rdMmbank2 b => rdWord b 0x4832#16
  | .wrMmbank2 b d => wrWord b d 0x4832#16
  | .rdMmbank3 b => rdWord b 0x4833#16
  | .wrMmbank3 b d => wrWord b d 0x4833#16
  | .rdMmsize b => rdWord b 0x4834#16
  | .wrMmsize b d => wrWord b d 0x4834#16
  | .rdRtcen b => rdWord b 0x4840#16
  | .wrRtcen b d => wrWord b d 0x4840#16
  | .rdRtcdata b => rdWord b 0x4841#16
  | .wrRtcdata b d => wrWord b d 0x4841#16
  | .rdRtcstat b => rdWord b 0x4842#16
  | .wrRtcstat b d => wrWord b d 0x4842#16
  | .rdUnmapped480D b => rdWord b 0x480D#16
  | .wrUnmapped480D b d => wrWord b d 0x480D#16
  | .rdUnmapped480E b => rdWord b 0x480E#16
  | .wrUnmapped480E b d => wrWord b d 0x480E#16
  | .rdUnmapped480F b => rdWord b 0x480F#16
  | .wrUnmapped480F b d => wrWord b d 0x480F#16
  | .rdUnmapped481B b => rdWord b 0x481B#16
  | .wrUnmapped481B b d => wrWord b d 0x481B#16
  | .rdUnmapped481C b => rdWord b 0x481C#16
  | .wrUnmapped481C b d => wrWord b d 0x481C#16
  | .rdUnmapped481D b => rdWord b 0x481D#16
  | .wrUnmapped481D b d => wrWord b d 0x481D#16
  | .rdUnmapped481E b => rdWord b 0x481E#16
  | .wrUnmapped481E b d => wrWord b d 0x481E#16
  | .rdUnmapped481F b => rdWord b 0x481F#16
  | .wrUnmapped481F b d => wrWord b d 0x481F#16
  | .rdUnmapped4835 b => rdWord b 0x4835#16
  | .wrUnmapped4835 b d => wrWord b d 0x4835#16
  | .rdUnmapped4836 b => rdWord b 0x4836#16
  | .wrUnmapped4836 b d => wrWord b d 0x4836#16
  | .rdUnmapped4837 b => rdWord b 0x4837#16
  | .wrUnmapped4837 b d => wrWord b d 0x4837#16
  | .rdUnmapped4838 b => rdWord b 0x4838#16
  | .wrUnmapped4838 b d => wrWord b d 0x4838#16
  | .rdUnmapped4839 b => rdWord b 0x4839#16
  | .wrUnmapped4839 b d => wrWord b d 0x4839#16
  | .rdUnmapped483A b => rdWord b 0x483A#16
  | .wrUnmapped483A b d => wrWord b d 0x483A#16
  | .rdUnmapped483B b => rdWord b 0x483B#16
  | .wrUnmapped483B b d => wrWord b d 0x483B#16
  | .rdUnmapped483C b => rdWord b 0x483C#16
  | .wrUnmapped483C b d => wrWord b d 0x483C#16
  | .rdUnmapped483D b => rdWord b 0x483D#16
  | .wrUnmapped483D b d => wrWord b d 0x483D#16
  | .rdUnmapped483E b => rdWord b 0x483E#16
  | .wrUnmapped483E b d => wrWord b d 0x483E#16
  | .rdUnmapped483F b => rdWord b 0x483F#16
  | .wrUnmapped483F b d => wrWord b d 0x483F#16
  | .tick => eventWord 0b010#3 0 0
  | .winrd a => eventWord 0b011#3 a 0
  | .winwr a d => eventWord 0b100#3 a d
  | .rdOutOfRange a => eventWord 0b000#3 a 0
  | .wrOutOfRange a d => eventWord 0b001#3 a d

end Sys2Proof
end

