-- ==== Sys2Proof/Config.lean ====
section
/-! DEFINITION. What the spec leaves OPEN: the parameters of 00_scope.md R8, the collaborators' fixed images of R9,
and the free values of 93_implementation_defined.md U1 and U3. Each is a constant with NO BODY, so a proof holds for
every value of it; `Config.params` only collects them, so that an operation can also be run on sample values. -/

namespace Sys2Proof

/-- The record of one `DecompBegin(mode, offset, length)` (R9, R39). -/
structure DecompSession where
  /-- the descriptor's mode, 2 bits -/
  mode : BitVec 2
  /-- the descriptor's source offset, 24 bits -/
  offset : Addr24
  /-- the length handed to the collaborator, a natural below 2^19 (R209, decision D43) -/
  length : Nat
  deriving DecidableEq, Repr

/-- Where the host's bus decoder sends an address (`P_MMIO_SELECT`, R8). -/
inductive BusRoute where
  /-- to the dispatcher -/
  | dispatcher
  /-- to the windows -/
  | window
  /-- not to this core -/
  | elsewhere
  deriving DecidableEq, Repr, Inhabited

/-- The parameters the rules depend on (R8, R9). -/
structure Params where
  /-- `P_MUL_LATENCY` less one: the latency is a natural of at least 1 (D18) -/
  mulLatencyPred : Nat
  /-- `P_DIV_LATENCY` less one (D18) -/
  divLatencyPred : Nat
  /-- `P_RTC_LATENCY` less one (D29) -/
  rtcLatencyPred : Nat
  /-- `P_HAS_RTC` (D35) -/
  hasRtc : Bool
  /-- `P_HAS_PROM_FIXED` (D21) -/
  hasPromFixed : Bool
  /-- `P_PROM_SIZE` -/
  promSize : Nat
  /-- `P_DROM_SIZE` -/
  dromSize : Nat
  /-- `P_RAM_SIZE` -/
  ramSize : Nat
  /-- the function behind `mirror`, before the law `mirror(o, size) < size` is imposed (D24) -/
  mirrorRaw : Nat → Nat → Nat
  /-- `DromByte`, the data-ROM image (R9) -/
  dromByte : Nat → Byte
  /-- `PromByte`, the program-ROM image (R9) -/
  promByte : Nat → Byte
  /-- the launch's SRAM contents (R57) -/
  ramInit : Nat → Byte
  /-- `P_RTC_IMAGE`, the persisted RTC image at power-on, or none (R8, R471) -/
  rtcImage : Option (List Byte)
  /-- the byte a data-ROM read draws when the ROM is empty, by event number and address (U1) -/
  emptyDrom : Nat → Nat → Byte
  /-- the byte a program-ROM read draws when the ROM is empty, by event number and offset (U1) -/
  emptyProm : Nat → Nat → Byte
  /-- the byte `DecompNext` draws, by the session last begun and the event number (R9, U3, U4) -/
  decompNext : Option DecompSession → Nat → Byte

/-- `P_MUL_LATENCY - 1`; OPEN (R8, D18). -/
opaque Config.mulLatencyPred : Nat
/-- `P_DIV_LATENCY - 1`; OPEN (R8, D18). -/
opaque Config.divLatencyPred : Nat
/-- `P_RTC_LATENCY - 1`; OPEN (R8, D29). -/
opaque Config.rtcLatencyPred : Nat
/-- `P_HAS_RTC`; OPEN (R8, D35). -/
opaque Config.hasRtc : Bool
/-- `P_HAS_PROM_FIXED`; OPEN (R8, D21). -/
opaque Config.hasPromFixed : Bool
/-- `P_PROM_SIZE`; OPEN (R8). -/
opaque Config.promSize : Nat
/-- `P_DROM_SIZE`; OPEN (R8). -/
opaque Config.dromSize : Nat
/-- `P_RAM_SIZE`; OPEN (R8). -/
opaque Config.ramSize : Nat
/-- `mirror` before its law is imposed; OPEN (R8, D24). -/
opaque Config.mirrorRaw : Nat → Nat → Nat
/-- `DromByte`; a launch parameter (R9). -/
opaque Config.dromByte : Nat → Byte
/-- `PromByte`; a launch parameter (R9). -/
opaque Config.promByte : Nat → Byte
/-- The SRAM contents at power-on; a launch parameter (R57, U12). -/
opaque Config.ramInit : Nat → Byte
/-- `P_RTC_IMAGE`; OPEN (R8, D36, D45). -/
opaque Config.rtcImage : Option (List Byte)
/-- FREE VALUE: a byte of an empty data ROM (U1). -/
opaque Config.emptyDrom : Nat → Nat → Byte
/-- FREE VALUE: a byte of an empty program ROM (U1). -/
opaque Config.emptyProm : Nat → Nat → Byte
/-- FREE VALUE: the byte the decompression collaborator answers (R9, U3, U4). -/
opaque Config.decompNext : Option DecompSession → Nat → Byte
/-- `P_CHIP_HZ`; OPEN; no rule depends on it (R8, D40). -/
opaque Config.chipHz : Nat
/-- `P_MMIO_SELECT`; OPEN; the host's decoder, outside the core: no rule reads it (R8, R111, D47). -/
opaque Config.mmioSelect : Addr24 → BusRoute

/-- The parameters of this machine, each one of the constants above. -/
def Config.params : Params where
  mulLatencyPred := Config.mulLatencyPred
  divLatencyPred := Config.divLatencyPred
  rtcLatencyPred := Config.rtcLatencyPred
  hasRtc := Config.hasRtc
  hasPromFixed := Config.hasPromFixed
  promSize := Config.promSize
  dromSize := Config.dromSize
  ramSize := Config.ramSize
  mirrorRaw := Config.mirrorRaw
  dromByte := Config.dromByte
  promByte := Config.promByte
  ramInit := Config.ramInit
  rtcImage := Config.rtcImage
  emptyDrom := Config.emptyDrom
  emptyProm := Config.emptyProm
  decompNext := Config.decompNext

end Sys2Proof
end

