-- ==== Sys2Proof/Machine/Image.lean ====
section
/-! DEFINITION. The persisted RTC image (70_reset_and_hazards.md R471, R473, decision D45): 14 bytes, nibble n in byte n
and the lost-power flag in byte 13. -/

namespace Sys2Proof.Machine

/-- `Valid(img)`: exactly 14 bytes, bytes 0 to 12 with bits 7:4 clear, byte 13 one of 0x00 and 0x01 (R473). -/
def imageValid (img : List Byte) : Bool :=
  img.length == 14 && (img.take 13).all (fun b => b.extractLsb' 4 4 == 0) &&
    (img.getD 13 0 == 0 || img.getD 13 0 == 1)

/-- The image a power-on loads, if there is a valid one; none is a cold start (R471). -/
def loadedImage (img : Option (List Byte)) : Option (List Byte) := img.filter imageValid

/-- Nibble n of an image: bits 3:0 of byte n (R471). -/
def imageNibble (img : List Byte) (n : Nat) : Nibble := (img.getD n 0).extractLsb' 0 4

/-- The thirteen nibbles after a power-on; 0 each after a cold start (R471). -/
def powerOnNib (img : Option (List Byte)) : Vector Nibble 13 :=
  match loadedImage img with
  | some bytes => Vector.ofFn fun i => imageNibble bytes i.val
  | none => Vector.replicate 13 0

/-- The lost-power flag after a power-on: bit 0 of byte 13, set after a cold start (R471, R385). -/
def powerOnLost (img : Option (List Byte)) : Bool :=
  match loadedImage img with
  | some bytes => (bytes.getD 13 0).getLsbD 0
  | none => true

end Sys2Proof.Machine
end

