-- ==== Sys2Proof/Machine/State.lean ====
section
/-! DEFINITION. The state as plain data: `Chip` is the core's own state, exactly the elements of 10_state.md R34 to R65
(R32), grouped by unit, and it is the snapshot of R68; `State` adds what the model needs around it: the queued inputs, the
open-bus byte, the number of the event being run and the byte the last event returned. -/

namespace Sys2Proof.Machine

/-- A byte memory as a list of (address, byte) in one canonical form: see `Memory.wf` in Machine/Ops.lean. -/
abbrev Memory := List Host.Cell

/-- The decompression front-end (R34 to R39). -/
structure Decomp where
  /-- table base, 24 bits (R34) -/
  dtbl : Addr24
  /-- index (R35) -/
  didx : Byte
  /-- five plain storage bytes (R36) -/
  daux : Vector Byte 5
  /-- setup length and visible counter (R37) -/
  dlen : BitVec 16
  /-- status byte (R38) -/
  dstat : Byte
  /-- the last `DecompBegin` issued, or none (R39) -/
  dlast : Option DecompSession
  deriving DecidableEq, Repr

/-- The data port (R40 to R46). -/
structure DataPort where
  /-- cursor A's address (R40) -/
  curA : Addr24
  /-- cursor A's visible byte (R41) -/
  visA : Byte
  /-- cursor B's address (R42) -/
  curB : Addr24
  /-- cursor B's visible byte (R43) -/
  visB : Byte
  /-- cursor B's increment amount (R44) -/
  incB : BitVec 16
  /-- 0x4814 has been written since the last increment or commit (R45) -/
  latLo : Bool
  /-- 0x4815 has been written since the last increment or commit (R45) -/
  latHi : Bool
  /-- directions: bit 0 `dirA`, bit 1 `dirB` (R46) -/
  pmode : BitVec 2
  deriving DecidableEq, Repr

/-- The multiply/divide unit (R47 to R52). -/
structure MathUnit where
  /-- multiply-wait timer, 0 when idle (R47) -/
  mulWait : Nat
  /-- divide-wait timer, 0 when idle (R47) -/
  divWait : Nat
  /-- multiplicand and dividend (R48) -/
  mopA : BitVec 16
  /-- plain storage (R48) -/
  maux : BitVec 16
  /-- multiplier (R49) -/
  mopM : BitVec 16
  /-- divisor (R49) -/
  mopD : BitVec 16
  /-- result latch: product or quotient (R50) -/
  mres : BitVec 32
  /-- remainder (R50) -/
  mrem : BitVec 16
  /-- sign mode: false unsigned, true signed (R51) -/
  msign : Bool
  /-- the product computed at arm time (R52) -/
  mulPend : BitVec 32
  /-- the quotient computed at arm time (R52) -/
  divPendQ : BitVec 32
  /-- the remainder computed at arm time (R52) -/
  divPendR : BitVec 16
  deriving DecidableEq, Repr

/-- The memory-mapping unit's registers (R54 to R56). -/
structure Mmu where
  /-- bank-select registers of windows 0 to 3 (R54) -/
  bank : Vector (BitVec 3) 4
  /-- RAM enable (R55) -/
  ramEn : Bool
  /-- ROM-size mode: 0 to 3 for 8 to 64 Mbit (R56) -/
  msize : BitVec 2
  /-- window-1 fast path (R56) -/
  mfast1 : Bool
  deriving DecidableEq, Repr

/-- The RTC's command-protocol state (R60). -/
inductive RtcState where
  /-- no command received -/
  | idle
  /-- a command received, an address awaited -/
  | cmdRcvd
  /-- data reads return nibbles -/
  | readMode
  /-- data writes store nibbles -/
  | writeMode
  deriving DecidableEq, Repr

/-- The real-time clock (R58 to R64). -/
structure Rtc where
  /-- `rtcEn` (R58) -/
  en : Bool
  /-- `rtcNib[0..12]`, battery-backed (R59) -/
  nib : Vector Nibble 13
  /-- `rtcLost`, battery-backed (R59) -/
  lost : Bool
  /-- `rtcState` (R60) -/
  state : RtcState
  /-- `rtcCmd` (R60) -/
  cmd : Nibble
  /-- `rtcCur` (R60) -/
  cur : Nibble
  /-- `rtcBusy` (R61) -/
  busy : Bool
  /-- `rtcWait` (R61) -/
  waitT : Nat
  /-- `rtcCnt` (R62) -/
  cnt : BitVec 16
  /-- `rtcSec`, 0 to 1439 (R63) -/
  sec : Nat
  /-- `rtcIrq`: bit 0 duty, 1 1/64-second, 2 second, 3 minute, 4 hour (R64) -/
  irq : BitVec 5
  deriving DecidableEq, Repr

/-- The core's state, whole: the snapshot of R68. -/
structure Chip where
  /-- decompression front-end -/
  dec : Decomp
  /-- data port -/
  port : DataPort
  /-- math unit -/
  math : MathUnit
  /-- memory-mapping unit -/
  mmu : Mmu
  /-- SRAM contents (R57) -/
  ram : Memory
  /-- real-time clock -/
  rtc : Rtc
  /-- the chip's cycle counter (R65) -/
  cycles : Nat
  deriving DecidableEq, Repr

/-- What the host can do to the machine between events (60_exceptions.md R442). -/
inductive Input where
  /-- an event word, with the open-bus byte that a read returns where the address has no behaviour (R140, R141) -/
  | event (word : EventWord) (mdr : Byte)
  /-- a reset that is not a power-on (R470, R472) -/
  | reset
  /-- restoring a snapshot (R68, R474) -/
  | restore (snapshot : Chip)
  deriving DecidableEq, Repr

/-- The machine: the core and what the model keeps around it. -/
structure State where
  /-- the core (R32, R68) -/
  chip : Chip
  /-- the inputs the host has queued, oldest first (R120, R121); the model's own field (DESIGN CHOICE, log 5) -/
  inbox : List Input
  /-- `mdr` of the event being run (R141); the model's own field (DESIGN CHOICE, log 7) -/
  mdr : Byte
  /-- the number of the event being run, which indexes the free values; the model's own field (DESIGN CHOICE, log 9) -/
  draw : Nat
  /-- the byte the last event returned to the host, if it was a read (R11); the model's own field (DESIGN CHOICE, log 8) -/
  ret : Option Byte
  deriving DecidableEq, Repr

/-- A step never faults: the core raises no exception, trap or fault (60_exceptions.md R430, 40_dispatcher.md R178), so
this type has no constructor. -/
inductive Fault where
  deriving DecidableEq, Repr

/-- Why a step is refused. -/
inductive Refusal where
  /-- Raised by an arm of `exec` whose event has no meaning in the model yet. No arm raises it. Safe: the run stops. -/
  | notModelled (mnemonic : String)
  /-- Raised by `step` on a word that is not an event; no hardware behaviour exists for it (30_encoding.md R144). Safe:
  the run stops. -/
  | reservedEncoding (why : DecodeError)
  deriving DecidableEq, Repr

/-- What a meaning answers. -/
abbrev Result := Host.Outcome State Fault Refusal

/-- The decompression front-end after reset (R69). -/
def Decomp.afterReset : Decomp where
  dtbl := 0
  didx := 0
  daux := Vector.replicate 5 0
  dlen := 0
  dstat := 0
  dlast := none

/-- The data port after reset (R69). -/
def DataPort.afterReset : DataPort where
  curA := 0
  visA := 0
  curB := 0
  visB := 0
  incB := 0
  latLo := false
  latHi := false
  pmode := 0

/-- The math unit after reset (R69). -/
def MathUnit.afterReset : MathUnit where
  mulWait := 0
  divWait := 0
  mopA := 0
  maux := 0
  mopM := 0
  mopD := 0
  mres := 0
  mrem := 0
  msign := false
  mulPend := 0
  divPendQ := 0
  divPendR := 0

/-- The memory-mapping unit after reset (R69). -/
def Mmu.afterReset : Mmu where
  bank := Vector.replicate 4 0
  ramEn := false
  msize := 0
  mfast1 := false

/-- The real-time clock after reset, its battery-backed cells given (R69, R472). -/
def Rtc.afterReset (nib : Vector Nibble 13) (lost : Bool) : Rtc where
  en := false
  nib := nib
  lost := lost
  state := .idle
  cmd := 0
  cur := 0
  busy := false
  waitT := 0
  cnt := 0
  sec := 0
  irq := 0

/-- The core after reset, what survives a reset given (R69, R470, R472). -/
def Chip.afterReset (nib : Vector Nibble 13) (lost : Bool) (ram : Memory) : Chip where
  dec := Decomp.afterReset
  port := DataPort.afterReset
  math := MathUnit.afterReset
  mmu := Mmu.afterReset
  ram := ram
  rtc := Rtc.afterReset nib lost
  cycles := 0

/-- The core after a power-on with a persisted image, then reset (R471, R470). The SRAM is the launch's: no cell is
listed, so every cell reads as the launch parameter (DEDUCED, logs 4 and 11). -/
def Chip.powerOn (img : Option (List Byte)) : Chip :=
  Chip.afterReset (powerOnNib img) (powerOnLost img) []

/-- The machine right after a power-on with `P_RTC_IMAGE`, no input queued. -/
def State.reset : State where
  chip := Chip.powerOn Config.params.rtcImage
  inbox := []
  mdr := 0
  draw := 0
  ret := none

end Sys2Proof.Machine
end

