-- ==== Sys2Proof/Machine/Flags.lean ====
section
/-! DEFINITION. The core's status flags (10_state.md R66): the decompression status, the math busy/ready pair, the RTC
status byte and the RTC's interrupt flags. -/

namespace Sys2Proof.Machine

/-- `busy`: a multiply or a divide is in flight (R53). -/
def mathBusy (m : MathUnit) : Bool := m.mulWait != 0 || m.divWait != 0

/-- The byte a read of 0x482F returns: busy at bit 7, ready at bit 6 (R53, R320). -/
def mstatByte (m : MathUnit) : Byte := bitAt 7 (mathBusy m) ||| bitAt 6 (!mathBusy m)

/-- `dstat` when a session starts (R209). -/
def dstatStarted : Byte := 0x80

/-- `dstat` after a read of it: bit 7 cleared (R224). -/
def dstatAfterRead (v : Byte) : Byte := v &&& 0x7F

/-- The byte a read of 0x4842 returns: busy at bit 7, the interrupt flags at bits 4:0 (R384). -/
def rtcStatByte (r : Rtc) : Byte := bitAt 7 r.busy ||| asByte r.irq

/-- The interrupt sources and their bits of `rtcIrq` (R64, R433). -/
inductive IrqSource where
  /-- every 2^15 cycles -/
  | duty
  /-- the 1/64-second event -/
  | sixtyFourth
  /-- the 1-second event -/
  | second
  /-- every 60 accumulated seconds -/
  | minute
  /-- at 1440 accumulated seconds, the "hour-boundary" event -/
  | hour
  deriving DecidableEq, Repr

/-- The bit of `rtcIrq` that a source sets (R64). -/
def IrqSource.bit : IrqSource → Nat
  | .duty => 0
  | .sixtyFourth => 1
  | .second => 2
  | .minute => 3
  | .hour => 4

/-- Sets a source's flag when its condition holds; a flag already set stays set (R414, R435). -/
def raiseWhen (cond : Bool) (src : IrqSource) (irq : BitVec 5) : BitVec 5 :=
  if cond then irq ||| (1#5 <<< src.bit) else irq

end Sys2Proof.Machine
end

