-- ==== Sys2Proof/Machine/Ops.lean ====
section
/-! DEFINITION. The named operations the meanings share: the latencies and the mirroring function (00_scope.md R8), SRAM
as a canonical list, address translation (20_memory.md R104 to R110), what an event answers (00_scope.md R11), reset and
the snapshot (70_reset_and_hazards.md R470 to R474). The core takes no exception and returns from none (60_exceptions.md
R430, R436, R437), so there is no operation for either. -/

namespace Sys2Proof.Machine

/-! Parameters -/

/-- `P_MUL_LATENCY`, a natural of at least 1 (R8, R324). -/
def mulLatency (P : Params) : Nat := P.mulLatencyPred + 1

/-- `P_DIV_LATENCY`, a natural of at least 1 (R8, R325). -/
def divLatency (P : Params) : Nat := P.divLatencyPred + 1

/-- `P_RTC_LATENCY`, a natural of at least 1 (R8, R382). -/
def rtcLatency (P : Params) : Nat := P.rtcLatencyPred + 1

/-- `mirror(offset, size)`: any function with `size > 0 → mirror(o, size) < size` (R8, D24). A function that has the law
already is unchanged by the reduction (DEDUCED, log 2). -/
def mirror (P : Params) (offset size : Nat) : Nat := P.mirrorRaw offset size % size

/-- The loop of the default `mirror`, the mask being 2^(bits - 1) (R109). -/
def mirrorFrom : (bits addr size base : Nat) → Nat
  | 0, addr, _, base => base + addr
  | k + 1, addr, size, base =>
    if addr < size then base + addr
    else if addr.testBit k then
      if size > 2 ^ k then mirrorFrom k (addr - 2 ^ k) (size - 2 ^ k) (base + 2 ^ k)
      else mirrorFrom k (addr - 2 ^ k) size base
    else mirrorFrom k addr size base

/-- The default `mirror`, its first mask 1 << 23 (R109). The machine itself uses the parameter `mirror`.
PRESUMED, log 15. -/
def defaultMirror (addr size : Nat) : Nat :=
  if size = 0 then 0 else mirrorFrom 24 addr size 0

/-! SRAM (R57, R108). `init` is what an unlisted address reads as: the launch's contents. -/

/-- One byte of memory. -/
def Memory.read (init : Nat → Byte) : Memory → Nat → Byte
  | [], a => init a
  | (b, v) :: rest, a => if a = b then v else Memory.read init rest a

/-- A memory without a cell at `a`. -/
def Memory.erase : Memory → Nat → Memory
  | [], _ => []
  | (b, v) :: rest, a => if a = b then rest else (b, v) :: Memory.erase rest a

/-- A memory with the cell (a, v) listed at its place. -/
def Memory.insert : Memory → Nat → Byte → Memory
  | [], a, v => [(a, v)]
  | (b, w) :: rest, a, v =>
    if a < b then (a, v) :: (b, w) :: rest
    else if a = b then (a, v) :: rest
    else (b, w) :: Memory.insert rest a v

/-- Stores a byte: writing what an unlisted address reads as takes the cell off the list. -/
def Memory.write (init : Nat → Byte) (m : Memory) (a : Nat) (v : Byte) : Memory :=
  if v = init a then Memory.erase m a else Memory.insert m a v

/-- Addresses strictly rising from `lo`, no cell equal to what an unlisted address reads as. -/
def Memory.wfFrom (init : Nat → Byte) : (lo : Nat) → Memory → Bool
  | _, [] => true
  | lo, (b, v) :: rest => decide (lo ≤ b) && (v != init b) && Memory.wfFrom init (b + 1) rest

/-- The canonical form. -/
def Memory.wf (init : Nat → Byte) (m : Memory) : Bool := Memory.wfFrom init 0 m

/-! Address translation -/

/-- `DromPhys(x)`: the size mode keeps the low 20 to 23 bits and `mirror` folds the rest (R105). -/
def dromPhys (P : Params) (msize : BitVec 2) (x : Addr24) : Nat :=
  mirror P (x.toNat % 2 ^ (20 + msize.toNat)) P.dromSize

/-- `DromRead(x)` (R104). An empty ROM draws the byte (U1), by the event's number and the address
(DEDUCED, log 10). -/
def dromRead (P : Params) (draw : Nat) (msize : BitVec 2) (x : Addr24) : Byte :=
  if P.dromSize = 0 then P.emptyDrom draw x.toNat else P.dromByte (dromPhys P msize x)

/-- A program-ROM read of the fast paths at an offset (R107); an empty ROM draws the byte (U1). -/
def promRead (P : Params) (draw : Nat) (offset : Nat) : Byte :=
  if P.promSize = 0 then P.emptyProm draw offset else P.promByte (mirror P offset P.promSize)

/-- A window's first address shape: `(A24 & 0x708000) = 0x008000 + k * 0x100000` (R107; PRESUMED, log 15). -/
def inShape1 (k : Nat) (a24 : Addr24) : Bool :=
  (a24 &&& 0x708000#24) == BitVec.ofNat 24 (0x008000 + k * 0x100000)

/-- A window's second address shape: `(A24 & 0xF00000) = 0xC00000 + k * 0x100000` (R107; PRESUMED, log 15). -/
def inShape2 (k : Nat) (a24 : Addr24) : Bool :=
  (a24 &&& 0xF00000#24) == BitVec.ofNat 24 (0xC00000 + k * 0x100000)

/-- An address is in ROM window `k` (R107). -/
def inWindow (k : Nat) (a24 : Addr24) : Bool := inShape1 k a24 || inShape2 k a24

/-- The ROM window of an address, if any (R107). -/
def windowOf (a24 : Addr24) : Option (Fin 4) :=
  if inWindow 0 a24 then some 0
  else if inWindow 1 a24 then some 1
  else if inWindow 2 a24 then some 2
  else if inWindow 3 a24 then some 3
  else none

/-- "mask to a 20-bit offset" (R107). -/
def offset20 (a24 : Addr24) : Nat := a24.toNat % 2 ^ 20

/-- `(bank[k] << 20) | off20`, a data-ROM address (R107). -/
def bankedAddr (bank : BitVec 3) (a24 : Addr24) : Addr24 :=
  (bank.setWidth 24 <<< 20) ||| (a24 &&& 0x0FFFFF#24)

/-- `WinRead(A24)` in window `k`, with the two fast paths (R107; their offsets PRESUMED, log 15). -/
def winRead (P : Params) (draw : Nat) (mmu : Mmu) (k : Fin 4) (a24 : Addr24) : Byte :=
  if k = 0 ∧ P.hasPromFixed = true then promRead P draw (offset20 a24)
  else if k = 1 ∧ mmu.mfast1 = true then promRead P draw (0x100000 + offset20 a24)
  else dromRead P draw mmu.msize (bankedAddr mmu.bank[k] a24)

/-- An address is in the RAM window: `(A24 & 0x40E000) = 0x006000` (R108; PRESUMED, log 15). -/
def inRamWindow (a24 : Addr24) : Bool := (a24 &&& 0x40E000#24) == 0x006000#24

/-- The SRAM offset of a RAM-window address: `mirror((A24[21:16] << 13) | A24[12:0], P_RAM_SIZE)` (R108;
PRESUMED, log 15). -/
def ramOffset (P : Params) (a24 : Addr24) : Nat :=
  mirror P ((a24.extractLsb' 16 6).toNat * 2 ^ 13 + (a24.extractLsb' 0 13).toNat) P.ramSize

/-- The SRAM cell a window event reaches: in the RAM window, enabled (R108), and the SRAM not empty (U2;
DEDUCED, log 23). -/
def ramCell (P : Params) (mmu : Mmu) (a24 : Addr24) : Option Nat :=
  if inRamWindow a24 = true ∧ mmu.ramEn = true ∧ P.ramSize ≠ 0 then some (ramOffset P a24) else none

/-! What an event answers (R11, R12) -/

/-- The core with one unit replaced. -/
def Chip.setDec (c : Chip) (u : Decomp) : Chip := { c with dec := u }
/-- The core with its data port replaced. -/
def Chip.setPort (c : Chip) (u : DataPort) : Chip := { c with port := u }
/-- The core with its math unit replaced. -/
def Chip.setMath (c : Chip) (u : MathUnit) : Chip := { c with math := u }
/-- The core with its memory-mapping unit replaced. -/
def Chip.setMmu (c : Chip) (u : Mmu) : Chip := { c with mmu := u }
/-- The core with its SRAM replaced. -/
def Chip.setRam (c : Chip) (m : Memory) : Chip := { c with ram := m }
/-- The core with its RTC replaced. -/
def Chip.setRtc (c : Chip) (u : Rtc) : Chip := { c with rtc := u }
/-- The core with its cycle counter replaced. -/
def Chip.setCycles (c : Chip) (n : Nat) : Chip := { c with cycles := n }

/-- A read event returns `v` and leaves the core `c` (R11 "`return v` gives the byte a read event delivers"). -/
def State.deliver (s : State) (v : Byte) (c : Chip) : Result := .next { s with chip := c, ret := some v }

/-- A write event or a TICK leaves the core `c` and returns nothing (R442). -/
def State.accept (s : State) (c : Chip) : Result := .next { s with chip := c, ret := none }

/-- A read with no side effect returns `v` (R179). -/
def State.observe (s : State) (v : Byte) : Result := s.deliver v s.chip

/-- A read of an address with no behaviour returns `mdr` and changes no state (R172, R174, R352). -/
def State.openBus (s : State) : Result := s.observe s.mdr

/-- A write that changes no state: a read-only register (R176) or an address with no behaviour (R173, R175). -/
def State.ignoreWrite (s : State) : Result := s.accept s.chip

/-- `DromRead` as this event sees it (R104). -/
def State.rom (s : State) (x : Addr24) : Byte := dromRead Config.params s.draw s.chip.mmu.msize x

/-! Reset, snapshot and the persisted image -/

/-- A reset that is not a power-on keeps the RTC's battery-backed cells and the SRAM (R470, R472). -/
def Chip.warmReset (c : Chip) : Chip := Chip.afterReset c.rtc.nib c.rtc.lost c.ram

/-- The persisted image of the RTC memory: 14 bytes (R473). -/
def rtcImageOf (r : Rtc) : List Byte := r.nib.toList.map asByte ++ [bitAt 0 r.lost]

end Sys2Proof.Machine
end

