-- ==== Sys2Proof/Machine/MathUnit.lean ====
section
/-! DEFINITION. The math unit 0x4820 to 0x482F (43_math.md R290 to R332): arming computes a result from the operands and
the sign mode as they are, completion makes it visible. -/

namespace Sys2Proof.Machine

/-- `MulCompute(a, b, s)`: the exact product, unsigned or two's complement (R322). -/
def mulCompute (a b : BitVec 16) (signed : Bool) : BitVec 32 :=
  if signed then BitVec.ofInt 32 (a.toInt * b.toInt) else BitVec.ofNat 32 (a.toNat * b.toNat)

/-- The quotient of `DivCompute(a, d, s)`: truncated toward zero; all bits set, per mode, for a zero divisor (R323). -/
def divQuotient (a d : BitVec 16) (signed : Bool) : BitVec 32 :=
  if signed then
    if d.toInt = 0 then 0xFFFFFFFF#32 else BitVec.ofInt 32 (a.toInt.tdiv d.toInt)
  else
    if d.toNat = 0 then 0x0000FFFF#32 else BitVec.ofNat 32 (a.toNat / d.toNat)

/-- The remainder of `DivCompute(a, d, s)`: the dividend for a zero divisor (R323). -/
def divRemainder (a d : BitVec 16) (signed : Bool) : BitVec 16 :=
  if signed then
    if d.toInt = 0 then a else BitVec.ofInt 16 (a.toInt - a.toInt.tdiv d.toInt * d.toInt)
  else
    if d.toNat = 0 then a else BitVec.ofNat 16 (a.toNat % d.toNat)

/-- `ArmMul()` (R324); arming while a multiply is in flight restarts it (R327). -/
def armMul (latency : Nat) (m : MathUnit) : MathUnit :=
  { m with mulPend := mulCompute m.mopA m.mopM m.msign, mulWait := latency }

/-- `ArmDiv()` (R325); arming while a divide is in flight restarts it (R327). -/
def armDiv (latency : Nat) (m : MathUnit) : MathUnit :=
  { m with
    divPendQ := divQuotient m.mopA m.mopD m.msign
    divPendR := divRemainder m.mopA m.mopD m.msign
    divWait := latency }

/-- `MulComplete()`: `mrem` is not written (R330). -/
def mulComplete (m : MathUnit) : MathUnit := { m with mres := m.mulPend }

/-- `DivComplete()` (R331). -/
def divComplete (m : MathUnit) : MathUnit := { m with mres := m.divPendQ, mrem := m.divPendR }

/-- `RD MOPA0` returns `mopA[7:0]` (R290). -/
def execRdMopa0 (_bank : Byte) (s : State) : Result := s.observe (lane 0 s.chip.math.mopA)
/-- `WR MOPA0` stores `mopA[7:0]` and has no other effect (R291). -/
def execWrMopa0 (_bank d8 : Byte) (s : State) : Result :=
  s.accept (s.chip.setMath { s.chip.math with mopA := setLane 0 s.chip.math.mopA d8 })
/-- `RD MOPA1` returns `mopA[15:8]` (R292). -/
def execRdMopa1 (_bank : Byte) (s : State) : Result := s.observe (lane 1 s.chip.math.mopA)
/-- `WR MOPA1` stores `mopA[15:8]` and has no other effect (R293). -/
def execWrMopa1 (_bank d8 : Byte) (s : State) : Result :=
  s.accept (s.chip.setMath { s.chip.math with mopA := setLane 1 s.chip.math.mopA d8 })
/-- `RD MAUX0` returns `maux[7:0]` (R294). -/
def execRdMaux0 (_bank : Byte) (s : State) : Result := s.observe (lane 0 s.chip.math.maux)
/-- `WR MAUX0` stores `maux[7:0]` and has no other effect (R295). -/
def execWrMaux0 (_bank d8 : Byte) (s : State) : Result :=
  s.accept (s.chip.setMath { s.chip.math with maux := setLane 0 s.chip.math.maux d8 })
/-- `RD MAUX1` returns `maux[15:8]` (R296). -/
def execRdMaux1 (_bank : Byte) (s : State) : Result := s.observe (lane 1 s.chip.math.maux)
/-- `WR MAUX1` stores `maux[15:8]` and has no other effect (R297). -/
def execWrMaux1 (_bank d8 : Byte) (s : State) : Result :=
  s.accept (s.chip.setMath { s.chip.math with maux := setLane 1 s.chip.math.maux d8 })

/-- `RD MOPM0` returns `mopM[7:0]` (R298). -/
def execRdMopm0 (_bank : Byte) (s : State) : Result := s.observe (lane 0 s.chip.math.mopM)
/-- `WR MOPM0` stores `mopM[7:0]` and has no other effect (R299). -/
def execWrMopm0 (_bank d8 : Byte) (s : State) : Result :=
  s.accept (s.chip.setMath { s.chip.math with mopM := setLane 0 s.chip.math.mopM d8 })
/-- `RD MOPM1` returns `mopM[15:8]` (R300). -/
def execRdMopm1 (_bank : Byte) (s : State) : Result := s.observe (lane 1 s.chip.math.mopM)
/-- `WR MOPM1` stores `mopM[15:8]`, then arms the multiplier (R301). -/
def execWrMopm1 (_bank d8 : Byte) (s : State) : Result :=
  s.accept (s.chip.setMath
    (armMul (mulLatency Config.params) { s.chip.math with mopM := setLane 1 s.chip.math.mopM d8 }))
/-- `RD MOPD0` returns `mopD[7:0]` (R302). -/
def execRdMopd0 (_bank : Byte) (s : State) : Result := s.observe (lane 0 s.chip.math.mopD)
/-- `WR MOPD0` stores `mopD[7:0]` and has no other effect (R303). -/
def execWrMopd0 (_bank d8 : Byte) (s : State) : Result :=
  s.accept (s.chip.setMath { s.chip.math with mopD := setLane 0 s.chip.math.mopD d8 })
/-- `RD MOPD1` returns `mopD[15:8]` (R304). -/
def execRdMopd1 (_bank : Byte) (s : State) : Result := s.observe (lane 1 s.chip.math.mopD)
/-- `WR MOPD1` stores `mopD[15:8]`, then arms the divider (R305). -/
def execWrMopd1 (_bank d8 : Byte) (s : State) : Result :=
  s.accept (s.chip.setMath
    (armDiv (divLatency Config.params) { s.chip.math with mopD := setLane 1 s.chip.math.mopD d8 }))

/-- `RD MRES0` returns `mres[7:0]` (R306). -/
def execRdMres0 (_bank : Byte) (s : State) : Result := s.observe (lane 0 s.chip.math.mres)
/-- `WR MRES0` is ignored (R307). -/
def execWrMres0 (_bank _d8 : Byte) (s : State) : Result := s.ignoreWrite
/-- `RD MRES1` returns `mres[15:8]` (R308). -/
def execRdMres1 (_bank : Byte) (s : State) : Result := s.observe (lane 1 s.chip.math.mres)
/-- `WR MRES1` is ignored (R309). -/
def execWrMres1 (_bank _d8 : Byte) (s : State) : Result := s.ignoreWrite
/-- `RD MRES2` returns `mres[23:16]` (R310). -/
def execRdMres2 (_bank : Byte) (s : State) : Result := s.observe (lane 2 s.chip.math.mres)
/-- `WR MRES2` is ignored (R311). -/
def execWrMres2 (_bank _d8 : Byte) (s : State) : Result := s.ignoreWrite
/-- `RD MRES3` returns `mres[31:24]` (R312). -/
def execRdMres3 (_bank : Byte) (s : State) : Result := s.observe (lane 3 s.chip.math.mres)
/-- `WR MRES3` is ignored (R313). -/
def execWrMres3 (_bank _d8 : Byte) (s : State) : Result := s.ignoreWrite
/-- `RD MREM0` returns `mrem[7:0]` (R314). -/
def execRdMrem0 (_bank : Byte) (s : State) : Result := s.observe (lane 0 s.chip.math.mrem)
/-- `WR MREM0` is ignored (R315). -/
def execWrMrem0 (_bank _d8 : Byte) (s : State) : Result := s.ignoreWrite
/-- `RD MREM1` returns `mrem[15:8]` (R316). -/
def execRdMrem1 (_bank : Byte) (s : State) : Result := s.observe (lane 1 s.chip.math.mrem)
/-- `WR MREM1` is ignored (R317). -/
def execWrMrem1 (_bank _d8 : Byte) (s : State) : Result := s.ignoreWrite

/-- `RD MSIGN` returns the sign mode at bit 0 (R318). -/
def execRdMsign (_bank : Byte) (s : State) : Result := s.observe (bitAt 0 s.chip.math.msign)
/-- `WR MSIGN` stores bit 0 and leaves an armed operation alone (R319, R328). -/
def execWrMsign (_bank d8 : Byte) (s : State) : Result :=
  s.accept (s.chip.setMath { s.chip.math with msign := keepBit 0 d8 })
/-- `RD MSTAT` returns the busy/ready pair (R320, R53). -/
def execRdMstat (_bank : Byte) (s : State) : Result := s.observe (mstatByte s.chip.math)
/-- `WR MSTAT` is ignored (R321). -/
def execWrMstat (_bank _d8 : Byte) (s : State) : Result := s.ignoreWrite

end Sys2Proof.Machine
end

