-- ==== Sys2Proof/Machine/Rtc.lean ====
section
/-! DEFINITION. The real-time clock 0x4840 to 0x4842 and its command protocol (45_rtc.md R370 to R386). -/

namespace Sys2Proof.Machine

/-- `READ_PREP` (R375). -/
def readPrep : Nibble := 0xC
/-- `WRITE_PREP` (R375; the spec's own general-knowledge passage G5; PRESUMED, log 15). -/
def writePrep : Nibble := 0x3

/-- `NibRead(n)`: a cell, the lost-power flag at 13, 0 at 14 and 15 (R373). -/
def nibRead (r : Rtc) (n : Nibble) : Nibble :=
  if h : n.toNat < 13 then r.nib[n.toNat]
  else if n = 13 then (BitVec.ofBool r.lost).setWidth 4
  else 0

/-- `NibWrite(n, v)`: no digit is validated (R374). -/
def nibWrite (r : Rtc) (n v : Nibble) : Rtc :=
  if h : n.toNat < 13 then { r with nib := r.nib.set n.toNat v }
  else if n = 13 then { r with lost := v.getLsbD 0 }
  else r

/-- A write of RTCEN: clearing the enable bit returns the protocol to Idle and changes nothing else (R372, D42). -/
def writeRtcEn (d8 : Byte) (r : Rtc) : Rtc :=
  if keepBit 0 d8 then { r with en := true } else { r with en := false, state := .idle }

/-- The protocol state after an address nibble, by the command received before it (R378). -/
def stateAfterAddress (cmd : Nibble) : RtcState :=
  if cmd = readPrep then .readMode else if cmd = writePrep then .writeMode else .idle

/-- The command protocol on a written nibble (R376 to R380). -/
def protocolWrite (v : Nibble) (r : Rtc) : Rtc :=
  match r.state with
  | .idle => { r with cmd := v, state := .cmdRcvd }
  | .cmdRcvd => { r with cur := v, state := stateAfterAddress r.cmd }
  | .readMode => r
  | .writeMode => { nibWrite r r.cur v with cur := r.cur + 1 }

/-- A write of RTCDATA: inert while disabled (R376). -/
def writeRtcData (d8 : Byte) (r : Rtc) : Rtc := if r.en then protocolWrite (keepLow 4 d8) r else r

/-- A data read is served: enabled and in read mode (R381). -/
def serves (r : Rtc) : Bool := r.en && r.state == .readMode

/-- The byte a read of RTCDATA returns (R381, R382). -/
def rtcDataByte (r : Rtc) : Byte := if serves r then asByte (nibRead r r.cur) else 0

/-- The RTC after a read of RTCDATA: the cursor advances, the busy flag is set and its timer loaded (R382). -/
def afterRtcDataRead (latency : Nat) (r : Rtc) : Rtc :=
  if serves r then { r with cur := r.cur + 1, busy := true, waitT := latency } else r

/-- The byte a read of RTCSTAT returns; 0 while disabled (R384). -/
def rtcStatusByte (r : Rtc) : Byte := if r.en then rtcStatByte r else 0

/-- The RTC after a read of RTCSTAT: the interrupt flags cleared, unless disabled (R384). -/
def afterRtcStatRead (r : Rtc) : Rtc := if r.en then { r with irq := 0 } else r

/-- A read of the RTC on a cartridge that may have none: then it returns 0x00 (R370). -/
def ifPresent (hasRtc : Bool) (v : Byte) : Byte := if hasRtc then v else 0

/-- An effect on the RTC on a cartridge that may have none: then nothing changes (R370). -/
def whenPresent (hasRtc : Bool) (f : Rtc → Rtc) (r : Rtc) : Rtc := if hasRtc then f r else r

/-- `RD RTCEN` returns the enable bit, enabled or not (R371, C13). -/
def execRdRtcen (_bank : Byte) (s : State) : Result :=
  s.observe (ifPresent Config.params.hasRtc (bitAt 0 s.chip.rtc.en))
/-- `WR RTCEN` stores the enable bit (R372). -/
def execWrRtcen (_bank d8 : Byte) (s : State) : Result :=
  s.accept (s.chip.setRtc (whenPresent Config.params.hasRtc (writeRtcEn d8) s.chip.rtc))
/-- `RD RTCDATA` (R381, R382). -/
def execRdRtcdata (_bank : Byte) (s : State) : Result :=
  s.deliver (ifPresent Config.params.hasRtc (rtcDataByte s.chip.rtc))
    (s.chip.setRtc (whenPresent Config.params.hasRtc (afterRtcDataRead (rtcLatency Config.params)) s.chip.rtc))
/-- `WR RTCDATA` (R376). -/
def execWrRtcdata (_bank d8 : Byte) (s : State) : Result :=
  s.accept (s.chip.setRtc (whenPresent Config.params.hasRtc (writeRtcData d8) s.chip.rtc))
/-- `RD RTCSTAT` (R384). -/
def execRdRtcstat (_bank : Byte) (s : State) : Result :=
  s.deliver (ifPresent Config.params.hasRtc (rtcStatusByte s.chip.rtc))
    (s.chip.setRtc (whenPresent Config.params.hasRtc afterRtcStatRead s.chip.rtc))
/-- `WR RTCSTAT` is ignored (R383). -/
def execWrRtcstat (_bank _d8 : Byte) (s : State) : Result := s.ignoreWrite

end Sys2Proof.Machine
end

