-- ==== Sys2Proof/Machine/ClockLoop.lean ====
section
/-! DEFINITION. The clock-stepping loop (46_clock_loop.md R410 to R417): one TICK is one chip cycle. -/

namespace Sys2Proof.Machine

/-- `MulTimerStep()`: completion fires in the TICK that brings the timer from 1 to 0 (R411). -/
def mulTimerStep (m : MathUnit) : MathUnit :=
  match m.mulWait with
  | 0 => m
  | 1 => mulComplete { m with mulWait := 0 }
  | n + 2 => { m with mulWait := n + 1 }

/-- `DivTimerStep()` (R412). -/
def divTimerStep (m : MathUnit) : MathUnit :=
  match m.divWait with
  | 0 => m
  | 1 => divComplete { m with divWait := 0 }
  | n + 2 => { m with divWait := n + 1 }

/-- `RtcWaitStep()`: the busy flag clears when its timer reaches 0 (R413). -/
def rtcWaitStep (r : Rtc) : Rtc :=
  match r.waitT with
  | 0 => r
  | 1 => { r with waitT := 0, busy := false }
  | n + 2 => { r with waitT := n + 1 }

/-- The second boundary: the accumulator counts, 60 seconds set the minute flag, 1440 the hour flag and reset it (R414). -/
def countSecond (r : Rtc) : Rtc :=
  let sec := r.sec + 1
  { r with
    irq := raiseWhen (sec == 1440) .hour (raiseWhen (sec % 60 == 0) .minute
      (raiseWhen true .second (raiseWhen true .sixtyFourth r.irq)))
    sec := if sec == 1440 then 0 else sec }

/-- The counter's step on a cartridge with an RTC, enabled or not (R414). -/
def countCycle (r : Rtc) : Rtc :=
  let cnt := r.cnt + 1
  let r := { r with cnt := cnt, irq := raiseWhen (cnt.toNat % 0x8000 == 0) .duty r.irq }
  if cnt = 0 then countSecond r else r

/-- `RtcCounterStep()` (R414). -/
def rtcCounterStep (hasRtc : Bool) (r : Rtc) : Rtc := whenPresent hasRtc countCycle r

/-- `SyncPoint()` changes no state: the host's events stand between TICKs (R415). -/
def syncPoint (c : Chip) : Chip := c

/-- One TICK, its effects in the order of R410 and R435. -/
def tickChip (hasRtc : Bool) (c : Chip) : Chip :=
  let c := c.setMath (mulTimerStep c.math)
  let c := c.setMath (divTimerStep c.math)
  let c := c.setRtc (rtcWaitStep c.rtc)
  let c := c.setRtc (rtcCounterStep hasRtc c.rtc)
  let c := c.setCycles (c.cycles + 1)
  syncPoint c

/-- `advance(n)`: n TICKs in a row (R417, R149). -/
def advance (hasRtc : Bool) : Nat → Chip → Chip
  | 0, c => c
  | n + 1, c => advance hasRtc n (tickChip hasRtc c)

/-- `TICK` (R410). -/
def execTick (s : State) : Result := s.accept (tickChip Config.params.hasRtc s.chip)

end Sys2Proof.Machine
end

