-- ==== Sys2Proof/Machine/DataPort.lean ====
section
/-! DEFINITION. The data port 0x4810 to 0x481A (42_data_port.md R240 to R271): two 24-bit cursors into the data ROM. The
cursor primitives take `rom`, the `DromRead` of the event. No primitive of one cursor reads or writes a field of the
other (R264). -/

namespace Sys2Proof.Machine

/-- `dirA`: false forward, true backward (R46). -/
def dirA (p : DataPort) : Bool := p.pmode.getLsbD 0
/-- `dirB`: false forward, true backward (R46). -/
def dirB (p : DataPort) : Bool := p.pmode.getLsbD 1

/-- A cursor moved by an amount in a direction, modulo 2^24 (R46, R260, R263). -/
def moveCursor (backward : Bool) (cur amount : Addr24) : Addr24 :=
  if backward then cur - amount else cur + amount

/-- `RefreshA()` (R261). -/
def refreshA (rom : Addr24 → Byte) (p : DataPort) : DataPort := { p with visA := rom p.curA }
/-- `RefreshB()` (R262). -/
def refreshB (rom : Addr24 → Byte) (p : DataPort) : DataPort := { p with visB := rom p.curB }

/-- `StepA()`: move cursor A one step and refresh its byte (R260). -/
def stepA (rom : Addr24 → Byte) (p : DataPort) : DataPort :=
  refreshA rom { p with curA := moveCursor (dirA p) p.curA 1 }

/-- `TryIncB()`: the increment fires only when both latches are set, and clears them (R263). -/
def tryIncB (rom : Addr24 → Byte) (p : DataPort) : DataPort :=
  if p.latLo && p.latHi then
    refreshB rom { p with curB := moveCursor (dirB p) p.curB (p.incB.setWidth 24), latLo := false, latHi := false }
  else p

/-- A write of PMODE: the directions, and both latches cleared (R257). -/
def commitMode (d8 : Byte) (p : DataPort) : DataPort :=
  { p with pmode := keepLow 2 d8, latLo := false, latHi := false }

/-- `RD PADATA` returns the visible byte, then cursor A steps (R240). -/
def execRdPadata (_bank : Byte) (s : State) : Result :=
  s.deliver s.chip.port.visA (s.chip.setPort (stepA s.rom s.chip.port))
/-- `WR PADATA` discards the byte; cursor A steps (R241). -/
def execWrPadata (_bank _d8 : Byte) (s : State) : Result :=
  s.accept (s.chip.setPort (stepA s.rom s.chip.port))

/-- `RD PAADR0` returns `curA[7:0]` (R242). -/
def execRdPaadr0 (_bank : Byte) (s : State) : Result := s.observe (lane 0 s.chip.port.curA)
/-- `WR PAADR0` stores `curA[7:0]`, then refreshes `visA` (R243). -/
def execWrPaadr0 (_bank d8 : Byte) (s : State) : Result :=
  s.accept (s.chip.setPort (refreshA s.rom { s.chip.port with curA := setLane 0 s.chip.port.curA d8 }))
/-- `RD PAADR1` returns `curA[15:8]` (R244). -/
def execRdPaadr1 (_bank : Byte) (s : State) : Result := s.observe (lane 1 s.chip.port.curA)
/-- `WR PAADR1` stores `curA[15:8]`, then refreshes `visA` (R245). -/
def execWrPaadr1 (_bank d8 : Byte) (s : State) : Result :=
  s.accept (s.chip.setPort (refreshA s.rom { s.chip.port with curA := setLane 1 s.chip.port.curA d8 }))
/-- `RD PAADR2` returns `curA[23:16]` (R246). -/
def execRdPaadr2 (_bank : Byte) (s : State) : Result := s.observe (lane 2 s.chip.port.curA)
/-- `WR PAADR2` stores `curA[23:16]`, then refreshes `visA` (R247). -/
def execWrPaadr2 (_bank d8 : Byte) (s : State) : Result :=
  s.accept (s.chip.setPort (refreshA s.rom { s.chip.port with curA := setLane 2 s.chip.port.curA d8 }))

/-- `RD PBINC0` returns `incB[7:0]` (R248). -/
def execRdPbinc0 (_bank : Byte) (s : State) : Result := s.observe (lane 0 s.chip.port.incB)
/-- `WR PBINC0` stores `incB[7:0]` and sets `latLo` (R249). -/
def execWrPbinc0 (_bank d8 : Byte) (s : State) : Result :=
  s.accept (s.chip.setPort { s.chip.port with incB := setLane 0 s.chip.port.incB d8, latLo := true })
/-- `RD PBINC1` returns `incB[15:8]` (R250). -/
def execRdPbinc1 (_bank : Byte) (s : State) : Result := s.observe (lane 1 s.chip.port.incB)
/-- `WR PBINC1` stores `incB[15:8]` and sets `latHi` (R251). -/
def execWrPbinc1 (_bank d8 : Byte) (s : State) : Result :=
  s.accept (s.chip.setPort { s.chip.port with incB := setLane 1 s.chip.port.incB d8, latHi := true })

/-- `RD PBADR0` returns `curB[7:0]` (R252). -/
def execRdPbadr0 (_bank : Byte) (s : State) : Result := s.observe (lane 0 s.chip.port.curB)
/-- `WR PBADR0` stores `curB[7:0]`, then refreshes `visB`; the latches are not affected (R253). -/
def execWrPbadr0 (_bank d8 : Byte) (s : State) : Result :=
  s.accept (s.chip.setPort (refreshB s.rom { s.chip.port with curB := setLane 0 s.chip.port.curB d8 }))
/-- `RD PBADR1` returns `curB[15:8]` (R254). -/
def execRdPbadr1 (_bank : Byte) (s : State) : Result := s.observe (lane 1 s.chip.port.curB)
/-- `WR PBADR1` stores `curB[15:8]`, then refreshes `visB`; the latches are not affected (R255). -/
def execWrPbadr1 (_bank d8 : Byte) (s : State) : Result :=
  s.accept (s.chip.setPort (refreshB s.rom { s.chip.port with curB := setLane 1 s.chip.port.curB d8 }))
/-- `RD PBADR2` returns `curB[23:16]` (R258). -/
def execRdPbadr2 (_bank : Byte) (s : State) : Result := s.observe (lane 2 s.chip.port.curB)
/-- `WR PBADR2` stores `curB[23:16]`, then refreshes `visB`; the latches are not affected (R259). -/
def execWrPbadr2 (_bank d8 : Byte) (s : State) : Result :=
  s.accept (s.chip.setPort (refreshB s.rom { s.chip.port with curB := setLane 2 s.chip.port.curB d8 }))

/-- `RD PMODE` returns the two direction bits (R256). -/
def execRdPmode (_bank : Byte) (s : State) : Result := s.observe (asByte s.chip.port.pmode)
/-- `WR PMODE` stores the directions and clears both latches (R257). -/
def execWrPmode (_bank d8 : Byte) (s : State) : Result :=
  s.accept (s.chip.setPort (commitMode d8 s.chip.port))

/-- `RD PBDATA` returns the visible byte, then tries cursor B's increment (R270). -/
def execRdPbdata (_bank : Byte) (s : State) : Result :=
  s.deliver s.chip.port.visB (s.chip.setPort (tryIncB s.rom s.chip.port))
/-- `WR PBDATA` discards the byte and tries cursor B's increment (R271). -/
def execWrPbdata (_bank _d8 : Byte) (s : State) : Result :=
  s.accept (s.chip.setPort (tryIncB s.rom s.chip.port))

end Sys2Proof.Machine
end

