-- ==== Sys2Proof/Machine/Decompression.lean ====
section
/-! DEFINITION. The decompression front-end registers 0x4800 to 0x480C (41_decompression.md R200 to R225). `_bank` is the
address byte the dispatcher ignores (20_memory.md R101). -/

namespace Sys2Proof.Machine

/-- The front-end after a read of DDATA: the visible counter is decremented modulo 2^16, its wrap unguarded (R200). -/
def countDown (u : Decomp) : Decomp := { u with dlen := u.dlen - 1 }

/-- The descriptor's address, `(dtbl + 4 * didx) mod 2^24` (R209, D8). -/
def descriptorAddr (u : Decomp) : Addr24 := u.dtbl + 4 * u.didx.setWidth 24

/-- The session a descriptor describes, read through `rom`: mode from bits 1:0 of the first byte, a big-endian 24-bit
offset, and the length `dlen << mode` (R209, R103, D43). -/
def describeSession (rom : Addr24 → Byte) (u : Decomp) : DecompSession :=
  let d := descriptorAddr u
  let mode := keepLow 2 (rom d)
  { mode := mode
    offset := rom (d + 1) ++ rom (d + 2) ++ rom (d + 3)
    length := u.dlen.toNat <<< mode.toNat }

/-- A write of DIDX: store the index, begin the session it selects, set the status flag (R209). -/
def startSession (rom : Addr24 → Byte) (d8 : Byte) (u : Decomp) : Decomp :=
  let u := { u with didx := d8 }
  { u with dlast := some (describeSession rom u), dstat := dstatStarted }

/-- `RD DDATA`: the next decompressed byte, a draw of the collaborator, and the counter decremented (R200). -/
def execRdDdata (_bank : Byte) (s : State) : Result :=
  s.deliver (Config.params.decompNext s.chip.dec.dlast s.draw) (s.chip.setDec (countDown s.chip.dec))
/-- `WR DDATA` is ignored (R201). -/
def execWrDdata (_bank _d8 : Byte) (s : State) : Result := s.ignoreWrite

/-- `RD DTBL0` returns `dtbl[7:0]` (R202). -/
def execRdDtbl0 (_bank : Byte) (s : State) : Result := s.observe (lane 0 s.chip.dec.dtbl)
/-- `WR DTBL0` stores `dtbl[7:0]` (R203). -/
def execWrDtbl0 (_bank d8 : Byte) (s : State) : Result :=
  s.accept (s.chip.setDec { s.chip.dec with dtbl := setLane 0 s.chip.dec.dtbl d8 })
/-- `RD DTBL1` returns `dtbl[15:8]` (R204). -/
def execRdDtbl1 (_bank : Byte) (s : State) : Result := s.observe (lane 1 s.chip.dec.dtbl)
/-- `WR DTBL1` stores `dtbl[15:8]` (R205). -/
def execWrDtbl1 (_bank d8 : Byte) (s : State) : Result :=
  s.accept (s.chip.setDec { s.chip.dec with dtbl := setLane 1 s.chip.dec.dtbl d8 })
/-- `RD DTBL2` returns `dtbl[23:16]` (R206). -/
def execRdDtbl2 (_bank : Byte) (s : State) : Result := s.observe (lane 2 s.chip.dec.dtbl)
/-- `WR DTBL2` stores `dtbl[23:16]` and starts no session (R207). -/
def execWrDtbl2 (_bank d8 : Byte) (s : State) : Result :=
  s.accept (s.chip.setDec { s.chip.dec with dtbl := setLane 2 s.chip.dec.dtbl d8 })

/-- `RD DIDX` returns `didx` (R208). -/
def execRdDidx (_bank : Byte) (s : State) : Result := s.observe s.chip.dec.didx
/-- `WR DIDX` stores the index and starts a session (R209). -/
def execWrDidx (_bank d8 : Byte) (s : State) : Result :=
  s.accept (s.chip.setDec (startSession s.rom d8 s.chip.dec))

/-- `RD DAUX0` returns `daux[0]` (R210). -/
def execRdDaux0 (_bank : Byte) (s : State) : Result := s.observe s.chip.dec.daux[0]
/-- `WR DAUX0` stores `daux[0]` (R211). -/
def execWrDaux0 (_bank d8 : Byte) (s : State) : Result :=
  s.accept (s.chip.setDec { s.chip.dec with daux := s.chip.dec.daux.set 0 d8 })
/-- `RD DAUX1` returns `daux[1]` (R212). -/
def execRdDaux1 (_bank : Byte) (s : State) : Result := s.observe s.chip.dec.daux[1]
/-- `WR DAUX1` stores `daux[1]` (R213). -/
def execWrDaux1 (_bank d8 : Byte) (s : State) : Result :=
  s.accept (s.chip.setDec { s.chip.dec with daux := s.chip.dec.daux.set 1 d8 })
/-- `RD DAUX2` returns `daux[2]` (R214). -/
def execRdDaux2 (_bank : Byte) (s : State) : Result := s.observe s.chip.dec.daux[2]
/-- `WR DAUX2` stores `daux[2]` (R215). -/
def execWrDaux2 (_bank d8 : Byte) (s : State) : Result :=
  s.accept (s.chip.setDec { s.chip.dec with daux := s.chip.dec.daux.set 2 d8 })
/-- `RD DAUX3` returns `daux[3]` (R216). -/
def execRdDaux3 (_bank : Byte) (s : State) : Result := s.observe s.chip.dec.daux[3]
/-- `WR DAUX3` stores `daux[3]` (R217). -/
def execWrDaux3 (_bank d8 : Byte) (s : State) : Result :=
  s.accept (s.chip.setDec { s.chip.dec with daux := s.chip.dec.daux.set 3 d8 })

/-- `RD DLEN0` returns `dlen[7:0]` (R218). -/
def execRdDlen0 (_bank : Byte) (s : State) : Result := s.observe (lane 0 s.chip.dec.dlen)
/-- `WR DLEN0` stores `dlen[7:0]` (R219). -/
def execWrDlen0 (_bank d8 : Byte) (s : State) : Result :=
  s.accept (s.chip.setDec { s.chip.dec with dlen := setLane 0 s.chip.dec.dlen d8 })
/-- `RD DLEN1` returns `dlen[15:8]` (R220). -/
def execRdDlen1 (_bank : Byte) (s : State) : Result := s.observe (lane 1 s.chip.dec.dlen)
/-- `WR DLEN1` stores `dlen[15:8]` (R221). -/
def execWrDlen1 (_bank d8 : Byte) (s : State) : Result :=
  s.accept (s.chip.setDec { s.chip.dec with dlen := setLane 1 s.chip.dec.dlen d8 })

/-- `RD DAUX4` returns `daux[4]` (R222). -/
def execRdDaux4 (_bank : Byte) (s : State) : Result := s.observe s.chip.dec.daux[4]
/-- `WR DAUX4` stores `daux[4]` (R223). -/
def execWrDaux4 (_bank d8 : Byte) (s : State) : Result :=
  s.accept (s.chip.setDec { s.chip.dec with daux := s.chip.dec.daux.set 4 d8 })

/-- `RD DSTAT` returns the status byte and clears its bit 7 (R224). -/
def execRdDstat (_bank : Byte) (s : State) : Result :=
  s.deliver s.chip.dec.dstat (s.chip.setDec { s.chip.dec with dstat := dstatAfterRead s.chip.dec.dstat })
/-- `WR DSTAT` is ignored (R225). -/
def execWrDstat (_bank _d8 : Byte) (s : State) : Result := s.ignoreWrite

end Sys2Proof.Machine
end

