-- ==== Sys2Proof/Machine/Mmu.lean ====
section
/-! DEFINITION. The memory-mapping unit 0x4830 to 0x4834 and the host window events (44_mmu_windows.md R340 to R352); the
translation itself is in Machine/Ops.lean. A register write takes effect for the next event (20_memory.md R125). -/

namespace Sys2Proof.Machine

/-- `RD MMBANK0` returns RAM enable at bit 7 and `bank[0]` at bits 2:0 (R340; its place PRESUMED, log 15). -/
def execRdMmbank0 (_bank : Byte) (s : State) : Result :=
  s.observe (bitAt 7 s.chip.mmu.ramEn ||| asByte s.chip.mmu.bank[0])
/-- `WR MMBANK0` stores `bank[0]` and RAM enable (R341; its place PRESUMED, log 15). -/
def execWrMmbank0 (_bank d8 : Byte) (s : State) : Result :=
  s.accept (s.chip.setMmu
    { s.chip.mmu with bank := s.chip.mmu.bank.set 0 (keepLow 3 d8), ramEn := keepBit 7 d8 })
/-- `RD MMBANK1` returns `bank[1]` (R342). -/
def execRdMmbank1 (_bank : Byte) (s : State) : Result := s.observe (asByte s.chip.mmu.bank[1])
/-- `WR MMBANK1` stores `bank[1]` (R343). -/
def execWrMmbank1 (_bank d8 : Byte) (s : State) : Result :=
  s.accept (s.chip.setMmu { s.chip.mmu with bank := s.chip.mmu.bank.set 1 (keepLow 3 d8) })
/-- `RD MMBANK2` returns `bank[2]` (R344). -/
def execRdMmbank2 (_bank : Byte) (s : State) : Result := s.observe (asByte s.chip.mmu.bank[2])
/-- `WR MMBANK2` stores `bank[2]` (R345). -/
def execWrMmbank2 (_bank d8 : Byte) (s : State) : Result :=
  s.accept (s.chip.setMmu { s.chip.mmu with bank := s.chip.mmu.bank.set 2 (keepLow 3 d8) })
/-- `RD MMBANK3` returns `bank[3]` (R346). -/
def execRdMmbank3 (_bank : Byte) (s : State) : Result := s.observe (asByte s.chip.mmu.bank[3])
/-- `WR MMBANK3` stores `bank[3]` (R347). -/
def execWrMmbank3 (_bank d8 : Byte) (s : State) : Result :=
  s.accept (s.chip.setMmu { s.chip.mmu with bank := s.chip.mmu.bank.set 3 (keepLow 3 d8) })
/-- `RD MMSIZE` returns the fast-path flag at bit 2 and the size mode at bits 1:0 (R348). -/
def execRdMmsize (_bank : Byte) (s : State) : Result :=
  s.observe (bitAt 2 s.chip.mmu.mfast1 ||| asByte s.chip.mmu.msize)
/-- `WR MMSIZE` stores the size mode and the fast-path flag (R349, C4). -/
def execWrMmsize (_bank d8 : Byte) (s : State) : Result :=
  s.accept (s.chip.setMmu { s.chip.mmu with msize := keepLow 2 d8, mfast1 := keepBit 2 d8 })

/-- The byte a window read returns: the ROM window's, else the SRAM cell's, else `mdr` (R350, R352). -/
def windowByte (P : Params) (draw : Nat) (mdr : Byte) (c : Chip) (a24 : Addr24) : Byte :=
  match windowOf a24 with
  | some k => winRead P draw c.mmu k a24
  | none =>
    match ramCell P c.mmu a24 with
    | some o => Memory.read P.ramInit c.ram o
    | none => mdr

/-- The SRAM after a window write: the SRAM cell written, if the address reaches one (R351, R352). -/
def windowStore (P : Params) (c : Chip) (a24 : Addr24) (d8 : Byte) : Memory :=
  match ramCell P c.mmu a24 with
  | some o => Memory.write P.ramInit c.ram o d8
  | none => c.ram

/-- `WINRD` changes no state (R350). -/
def execWinrd (a24 : Addr24) (s : State) : Result :=
  s.observe (windowByte Config.params s.draw s.mdr s.chip a24)
/-- `WINWR` writes the SRAM or nothing (R351). -/
def execWinwr (a24 : Addr24) (d8 : Byte) (s : State) : Result :=
  s.accept (s.chip.setRam (windowStore Config.params s.chip a24 d8))

end Sys2Proof.Machine
end

