-- ==== Sys2Proof/Machine/Unmapped.lean ====
section
/-! DEFINITION. MMIO addresses with no behaviour (40_dispatcher.md R172 to R175): a read returns the open-bus byte that
came with it and a write does nothing. Each address has a meaning of its own over the two shared operations
`State.openBus` and `State.ignoreWrite`. -/

namespace Sys2Proof.Machine

/-- `RD 0x480D` returns `mdr` (R174). -/
def execRdUnmapped480D (_bank : Byte) (s : State) : Result := s.openBus
/-- `WR 0x480D` is a no-op (R175). -/
def execWrUnmapped480D (_bank _d8 : Byte) (s : State) : Result := s.ignoreWrite
/-- `RD 0x480E` returns `mdr` (R174). -/
def execRdUnmapped480E (_bank : Byte) (s : State) : Result := s.openBus
/-- `WR 0x480E` is a no-op (R175). -/
def execWrUnmapped480E (_bank _d8 : Byte) (s : State) : Result := s.ignoreWrite
/-- `RD 0x480F` returns `mdr` (R174). -/
def execRdUnmapped480F (_bank : Byte) (s : State) : Result := s.openBus
/-- `WR 0x480F` is a no-op (R175). -/
def execWrUnmapped480F (_bank _d8 : Byte) (s : State) : Result := s.ignoreWrite
/-- `RD 0x481B` returns `mdr` (R174). -/
def execRdUnmapped481B (_bank : Byte) (s : State) : Result := s.openBus
/-- `WR 0x481B` is a no-op (R175). -/
def execWrUnmapped481B (_bank _d8 : Byte) (s : State) : Result := s.ignoreWrite
/-- `RD 0x481C` returns `mdr` (R174). -/
def execRdUnmapped481C (_bank : Byte) (s : State) : Result := s.openBus
/-- `WR 0x481C` is a no-op (R175). -/
def execWrUnmapped481C (_bank _d8 : Byte) (s : State) : Result := s.ignoreWrite
/-- `RD 0x481D` returns `mdr` (R174). -/
def execRdUnmapped481D (_bank : Byte) (s : State) : Result := s.openBus
/-- `WR 0x481D` is a no-op (R175). -/
def execWrUnmapped481D (_bank _d8 : Byte) (s : State) : Result := s.ignoreWrite
/-- `RD 0x481E` returns `mdr` (R174). -/
def execRdUnmapped481E (_bank : Byte) (s : State) : Result := s.openBus
/-- `WR 0x481E` is a no-op (R175). -/
def execWrUnmapped481E (_bank _d8 : Byte) (s : State) : Result := s.ignoreWrite
/-- `RD 0x481F` returns `mdr` (R174). -/
def execRdUnmapped481F (_bank : Byte) (s : State) : Result := s.openBus
/-- `WR 0x481F` is a no-op (R175). -/
def execWrUnmapped481F (_bank _d8 : Byte) (s : State) : Result := s.ignoreWrite
/-- `RD 0x4835` returns `mdr` (R174). -/
def execRdUnmapped4835 (_bank : Byte) (s : State) : Result := s.openBus
/-- `WR 0x4835` is a no-op (R175). -/
def execWrUnmapped4835 (_bank _d8 : Byte) (s : State) : Result := s.ignoreWrite
/-- `RD 0x4836` returns `mdr` (R174). -/
def execRdUnmapped4836 (_bank : Byte) (s : State) : Result := s.openBus
/-- `WR 0x4836` is a no-op (R175). -/
def execWrUnmapped4836 (_bank _d8 : Byte) (s : State) : Result := s.ignoreWrite
/-- `RD 0x4837` returns `mdr` (R174). -/
def execRdUnmapped4837 (_bank : Byte) (s : State) : Result := s.openBus
/-- `WR 0x4837` is a no-op (R175). -/
def execWrUnmapped4837 (_bank _d8 : Byte) (s : State) : Result := s.ignoreWrite
/-- `RD 0x4838` returns `mdr` (R174). -/
def execRdUnmapped4838 (_bank : Byte) (s : State) : Result := s.openBus
/-- `WR 0x4838` is a no-op (R175). -/
def execWrUnmapped4838 (_bank _d8 : Byte) (s : State) : Result := s.ignoreWrite
/-- `RD 0x4839` returns `mdr` (R174). -/
def execRdUnmapped4839 (_bank : Byte) (s : State) : Result := s.openBus
/-- `WR 0x4839` is a no-op (R175). -/
def execWrUnmapped4839 (_bank _d8 : Byte) (s : State) : Result := s.ignoreWrite
/-- `RD 0x483A` returns `mdr` (R174). -/
def execRdUnmapped483A (_bank : Byte) (s : State) : Result := s.openBus
/-- `WR 0x483A` is a no-op (R175). -/
def execWrUnmapped483A (_bank _d8 : Byte) (s : State) : Result := s.ignoreWrite
/-- `RD 0x483B` returns `mdr` (R174). -/
def execRdUnmapped483B (_bank : Byte) (s : State) : Result := s.openBus
/-- `WR 0x483B` is a no-op (R175). -/
def execWrUnmapped483B (_bank _d8 : Byte) (s : State) : Result := s.ignoreWrite
/-- `RD 0x483C` returns `mdr` (R174). -/
def execRdUnmapped483C (_bank : Byte) (s : State) : Result := s.openBus
/-- `WR 0x483C` is a no-op (R175). -/
def execWrUnmapped483C (_bank _d8 : Byte) (s : State) : Result := s.ignoreWrite
/-- `RD 0x483D` returns `mdr` (R174). -/
def execRdUnmapped483D (_bank : Byte) (s : State) : Result := s.openBus
/-- `WR 0x483D` is a no-op (R175). -/
def execWrUnmapped483D (_bank _d8 : Byte) (s : State) : Result := s.ignoreWrite
/-- `RD 0x483E` returns `mdr` (R174). -/
def execRdUnmapped483E (_bank : Byte) (s : State) : Result := s.openBus
/-- `WR 0x483E` is a no-op (R175). -/
def execWrUnmapped483E (_bank _d8 : Byte) (s : State) : Result := s.ignoreWrite
/-- `RD 0x483F` returns `mdr` (R174). -/
def execRdUnmapped483F (_bank : Byte) (s : State) : Result := s.openBus
/-- `WR 0x483F` is a no-op (R175). -/
def execWrUnmapped483F (_bank _d8 : Byte) (s : State) : Result := s.ignoreWrite
/-- `RD` out of range returns `mdr` (R172). -/
def execRdOutOfRange (_a24 : Addr24) (s : State) : Result := s.openBus
/-- `WR` out of range is a no-op (R173). -/
def execWrOutOfRange (_a24 : Addr24) (_d8 : Byte) (s : State) : Result := s.ignoreWrite

end Sys2Proof.Machine
end

