-- ==== Sys2Proof/Machine/Dispatch.lean ====
section
/-! DEFINITION. The dispatch of an event to its meaning, one arm per constructor of Instr (40_dispatcher.md R170, R171, R180). -/

namespace Sys2Proof.Machine

def exec (i : Instr) (s : State) : Host.Outcome State Fault Refusal :=
  match i with
  -- Decompression front-end, 41_decompression.md
  | .rdDdata b => Sys2Proof.Machine.execRdDdata b s
  | .wrDdata b d => Sys2Proof.Machine.execWrDdata b d s
  | .rdDtbl0 b => Sys2Proof.Machine.execRdDtbl0 b s
  | .wrDtbl0 b d => Sys2Proof.Machine.execWrDtbl0 b d s
  | .rdDtbl1 b => Sys2Proof.Machine.execRdDtbl1 b s
  | .wrDtbl1 b d => Sys2Proof.Machine.execWrDtbl1 b d s
  | .rdDtbl2 b => Sys2Proof.Machine.execRdDtbl2 b s
  | .wrDtbl2 b d => Sys2Proof.Machine.execWrDtbl2 b d s
  | .rdDidx b => Sys2Proof.Machine.execRdDidx b s
  | .wrDidx b d => Sys2Proof.Machine.execWrDidx b d s
  | .rdDaux0 b => Sys2Proof.Machine.execRdDaux0 b s
  | .wrDaux0 b d => Sys2Proof.Machine.execWrDaux0 b d s
  | .rdDaux1 b => Sys2Proof.Machine.execRdDaux1 b s
  | .wrDaux1 b d => Sys2Proof.Machine.execWrDaux1 b d s
  | .rdDaux2 b => Sys2Proof.Machine.execRdDaux2 b s
  | .wrDaux2 b d => Sys2Proof.Machine.execWrDaux2 b d s
  | .rdDaux3 b => Sys2Proof.Machine.execRdDaux3 b s
  | .wrDaux3 b d => Sys2Proof.Machine.execWrDaux3 b d s
  | .rdDlen0 b => Sys2Proof.Machine.execRdDlen0 b s
  | .wrDlen0 b d => Sys2Proof.Machine.execWrDlen0 b d s
  | .rdDlen1 b => Sys2Proof.Machine.execRdDlen1 b s
  | .wrDlen1 b d => Sys2Proof.Machine.execWrDlen1 b d s
  | .rdDaux4 b => Sys2Proof.Machine.execRdDaux4 b s
  | .wrDaux4 b d => Sys2Proof.Machine.execWrDaux4 b d s
  | .rdDstat b => Sys2Proof.Machine.execRdDstat b s
  | .wrDstat b d => Sys2Proof.Machine.execWrDstat b d s
  -- Data port, 42_data_port.md
  | .rdPadata b => Sys2Proof.Machine.execRdPadata b s
  | .wrPadata b d => Sys2Proof.Machine.execWrPadata b d s
  | .rdPaadr0 b => Sys2Proof.Machine.execRdPaadr0 b s
  | .wrPaadr0 b d => Sys2Proof.Machine.execWrPaadr0 b d s
  | .rdPaadr1 b => Sys2Proof.Machine.execRdPaadr1 b s
  | .wrPaadr1 b d => Sys2Proof.Machine.execWrPaadr1 b d s
  | .rdPaadr2 b => Sys2Proof.Machine.execRdPaadr2 b s
  | .wrPaadr2 b d => Sys2Proof.Machine.execWrPaadr2 b d s
  | .rdPbinc0 b => Sys2Proof.Machine.execRdPbinc0 b s
  | .wrPbinc0 b d => Sys2Proof.Machine.execWrPbinc0 b d s
  | .rdPbinc1 b => Sys2Proof.Machine.execRdPbinc1 b s
  | .wrPbinc1 b d => Sys2Proof.Machine.execWrPbinc1 b d s
  | .rdPbadr0 b => Sys2Proof.Machine.execRdPbadr0 b s
  | .wrPbadr0 b d => Sys2Proof.Machine.execWrPbadr0 b d s
  | .rdPbadr1 b => Sys2Proof.Machine.execRdPbadr1 b s
  | .wrPbadr1 b d => Sys2Proof.Machine.execWrPbadr1 b d s
  | .rdPmode b => Sys2Proof.Machine.execRdPmode b s
  | .wrPmode b d => Sys2Proof.Machine.execWrPmode b d s
  | .rdPbadr2 b => Sys2Proof.Machine.execRdPbadr2 b s
  | .wrPbadr2 b d => Sys2Proof.Machine.execWrPbadr2 b d s
  | .rdPbdata b => Sys2Proof.Machine.execRdPbdata b s
  | .wrPbdata b d => Sys2Proof.Machine.execWrPbdata b d s
  -- Math unit, 43_math.md
  | .rdMopa0 b => Sys2Proof.Machine.execRdMopa0 b s
  | .wrMopa0 b d => Sys2Proof.Machine.execWrMopa0 b d s
  | .rdMopa1 b => Sys2Proof.Machine.execRdMopa1 b s
  | .wrMopa1 b d => Sys2Proof.Machine.execWrMopa1 b d s
  | .rdMaux0 b => Sys2Proof.Machine.execRdMaux0 b s
  | .wrMaux0 b d => Sys2Proof.Machine.execWrMaux0 b d s
  | .rdMaux1 b => Sys2Proof.Machine.execRdMaux1 b s
  | .wrMaux1 b d => Sys2Proof.Machine.execWrMaux1 b d s
  | .rdMopm0 b => Sys2Proof.Machine.execRdMopm0 b s
  | .wrMopm0 b d => Sys2Proof.Machine.execWrMopm0 b d s
  | .rdMopm1 b => Sys2Proof.Machine.execRdMopm1 b s
  | .wrMopm1 b d => Sys2Proof.Machine.execWrMopm1 b d s
  | .rdMopd0 b => Sys2Proof.Machine.execRdMopd0 b s
  | .wrMopd0 b d => Sys2Proof.Machine.execWrMopd0 b d s
  | .rdMopd1 b => Sys2Proof.Machine.execRdMopd1 b s
  | .wrMopd1 b d => Sys2Proof.Machine.execWrMopd1 b d s
  | .rdMres0 b => Sys2Proof.Machine.execRdMres0 b s
  | .wrMres0 b d => Sys2Proof.Machine.execWrMres0 b d s
  | .rdMres1 b => Sys2Proof.Machine.execRdMres1 b s
  | .wrMres1 b d => Sys2Proof.Machine.execWrMres1 b d s
  | .rdMres2 b => Sys2Proof.Machine.execRdMres2 b s
  | .wrMres2 b d => Sys2Proof.Machine.execWrMres2 b d s
  | .rdMres3 b => Sys2Proof.Machine.execRdMres3 b s
  | .wrMres3 b d => Sys2Proof.Machine.execWrMres3 b d s
  | .rdMrem0 b => Sys2Proof.Machine.execRdMrem0 b s
  | .wrMrem0 b d => Sys2Proof.Machine.execWrMrem0 b d s
  | .rdMrem1 b => Sys2Proof.Machine.execRdMrem1 b s
  | .wrMrem1 b d => Sys2Proof.Machine.execWrMrem1 b d s
  | .rdMsign b => Sys2Proof.Machine.execRdMsign b s
  | .wrMsign b d => Sys2Proof.Machine.execWrMsign b d s
  | .rdMstat b => Sys2Proof.Machine.execRdMstat b s
  | .wrMstat b d => Sys2Proof.Machine.execWrMstat b d s
  -- Memory-mapping unit, 44_mmu_windows.md
  | .rdMmbank0 b => Sys2Proof.Machine.execRdMmbank0 b s
  | .wrMmbank0 b d => Sys2Proof.Machine.execWrMmbank0 b d s
  | .rdMmbank1 b => Sys2Proof.Machine.execRdMmbank1 b s
  | .wrMmbank1 b d => Sys2Proof.Machine.execWrMmbank1 b d s
  | .rdMmbank2 b => Sys2Proof.Machine.execRdMmbank2 b s
  | .wrMmbank2 b d => Sys2Proof.Machine.execWrMmbank2 b d s
  | .rdMmbank3 b => Sys2Proof.Machine.execRdMmbank3 b s
  | .wrMmbank3 b d => Sys2Proof.Machine.execWrMmbank3 b d s
  | .rdMmsize b => Sys2Proof.Machine.execRdMmsize b s
  | .wrMmsize b d => Sys2Proof.Machine.execWrMmsize b d s
  -- Real-time clock, 45_rtc.md
  | .rdRtcen b => Sys2Proof.Machine.execRdRtcen b s
  | .wrRtcen b d => Sys2Proof.Machine.execWrRtcen b d s
  | .rdRtcdata b => Sys2Proof.Machine.execRdRtcdata b s
  | .wrRtcdata b d => Sys2Proof.Machine.execWrRtcdata b d s
  | .rdRtcstat b => Sys2Proof.Machine.execRdRtcstat b s
  | .wrRtcstat b d => Sys2Proof.Machine.execWrRtcstat b d s
  -- Unmapped addresses in range, 30_encoding.md R146
  | .rdUnmapped480D b => Sys2Proof.Machine.execRdUnmapped480D b s
  | .wrUnmapped480D b d => Sys2Proof.Machine.execWrUnmapped480D b d s
  | .rdUnmapped480E b => Sys2Proof.Machine.execRdUnmapped480E b s
  | .wrUnmapped480E b d => Sys2Proof.Machine.execWrUnmapped480E b d s
  | .rdUnmapped480F b => Sys2Proof.Machine.execRdUnmapped480F b s
  | .wrUnmapped480F b d => Sys2Proof.Machine.execWrUnmapped480F b d s
  | .rdUnmapped481B b => Sys2Proof.Machine.execRdUnmapped481B b s
  | .wrUnmapped481B b d => Sys2Proof.Machine.execWrUnmapped481B b d s
  | .rdUnmapped481C b => Sys2Proof.Machine.execRdUnmapped481C b s
  | .wrUnmapped481C b d => Sys2Proof.Machine.execWrUnmapped481C b d s
  | .rdUnmapped481D b => Sys2Proof.Machine.execRdUnmapped481D b s
  | .wrUnmapped481D b d => Sys2Proof.Machine.execWrUnmapped481D b d s
  | .rdUnmapped481E b => Sys2Proof.Machine.execRdUnmapped481E b s
  | .wrUnmapped481E b d => Sys2Proof.Machine.execWrUnmapped481E b d s
  | .rdUnmapped481F b => Sys2Proof.Machine.execRdUnmapped481F b s
  | .wrUnmapped481F b d => Sys2Proof.Machine.execWrUnmapped481F b d s
  | .rdUnmapped4835 b => Sys2Proof.Machine.execRdUnmapped4835 b s
  | .wrUnmapped4835 b d => Sys2Proof.Machine.execWrUnmapped4835 b d s
  | .rdUnmapped4836 b => Sys2Proof.Machine.execRdUnmapped4836 b s
  | .wrUnmapped4836 b d => Sys2Proof.Machine.execWrUnmapped4836 b d s
  | .rdUnmapped4837 b => Sys2Proof.Machine.execRdUnmapped4837 b s
  | .wrUnmapped4837 b d => Sys2Proof.Machine.execWrUnmapped4837 b d s
  | .rdUnmapped4838 b => Sys2Proof.Machine.execRdUnmapped4838 b s
  | .wrUnmapped4838 b d => Sys2Proof.Machine.execWrUnmapped4838 b d s
  | .rdUnmapped4839 b => Sys2Proof.Machine.execRdUnmapped4839 b s
  | .wrUnmapped4839 b d => Sys2Proof.Machine.execWrUnmapped4839 b d s
  | .rdUnmapped483A b => Sys2Proof.Machine.execRdUnmapped483A b s
  | .wrUnmapped483A b d => Sys2Proof.Machine.execWrUnmapped483A b d s
  | .rdUnmapped483B b => Sys2Proof.Machine.execRdUnmapped483B b s
  | .wrUnmapped483B b d => Sys2Proof.Machine.execWrUnmapped483B b d s
  | .rdUnmapped483C b => Sys2Proof.Machine.execRdUnmapped483C b s
  | .wrUnmapped483C b d => Sys2Proof.Machine.execWrUnmapped483C b d s
  | .rdUnmapped483D b => Sys2Proof.Machine.execRdUnmapped483D b s
  | .wrUnmapped483D b d => Sys2Proof.Machine.execWrUnmapped483D b d s
  | .rdUnmapped483E b => Sys2Proof.Machine.execRdUnmapped483E b s
  | .wrUnmapped483E b d => Sys2Proof.Machine.execWrUnmapped483E b d s
  | .rdUnmapped483F b => Sys2Proof.Machine.execRdUnmapped483F b s
  | .wrUnmapped483F b d => Sys2Proof.Machine.execWrUnmapped483F b d s
  -- The clock loop and the windows
  | .tick => Sys2Proof.Machine.execTick s
  | .winrd a => Sys2Proof.Machine.execWinrd a s
  | .winwr a d => Sys2Proof.Machine.execWinwr a d s
  -- Addresses outside the MMIO block
  | .rdOutOfRange a => Sys2Proof.Machine.execRdOutOfRange a s
  | .wrOutOfRange a d => Sys2Proof.Machine.execWrOutOfRange a d s

end Sys2Proof.Machine
end

