-- ==== Sys2Proof/Machine/Fetch.lean ====
section
/-! DEFINITION. How the machine takes its next input (20_memory.md R120, R121): the host's events, resets and restores
come one at a time from the queue, each whole before the next (00_scope.md R12). -/

namespace Sys2Proof.Machine

/-- Takes an event off the queue: its open-bus byte becomes `mdr` (R141) and it gets the next event number. -/
def State.takeEvent (rest : List Input) (mdr : Byte) (s : State) : State :=
  { s with inbox := rest, mdr := mdr, draw := s.draw + 1 }

/-- A reset between events (R470, R472). -/
def State.takeReset (rest : List Input) (s : State) : State :=
  { s with chip := s.chip.warmReset, inbox := rest, ret := none }

/-- A snapshot restore between events: every element takes its saved value (R68, R474). -/
def State.takeRestore (rest : List Input) (snapshot : Chip) (s : State) : State :=
  { s with chip := snapshot, inbox := rest, ret := none }

/-- No input is queued: the loop is paused, and no event is lost or added (R416; DESIGN CHOICE, log 6). -/
def State.pause (s : State) : State := s

/-- The input that carries a word's bits, the open-bus byte given. -/
def eventInput (nbits w : Nat) (mdr : Byte) : Input := .event (BitVec.ofNat 40 (w % 2 ^ nbits)) mdr

end Sys2Proof.Machine
end

