-- ==== Sys2Proof/Machine/Step.lean ====
section
/-! DEFINITION. One step: the next queued input, whole (00_scope.md R12, 20_memory.md R121). -/

namespace Sys2Proof.Machine

/-- One step of the machine: an event word is decoded and run, or refused if it is not an event (R144); a reset or a
restore is applied; with nothing queued the machine is paused (R416). -/
def step (s : State) : Host.Outcome State Fault Refusal :=
  match s.inbox with
  | [] => .next s.pause
  | .event w mdr :: rest =>
    match decode w with
    | .ok i => exec i (s.takeEvent rest mdr)
    | .error why => .refused (.reservedEncoding why)
  | .reset :: rest => .next (s.takeReset rest)
  | .restore snapshot :: rest => .next (s.takeRestore rest snapshot)

/-- The state with an event word queued before every other input, so that the next step runs it; its open-bus byte is the
one the state holds. -/
def State.withFetchWord (s : State) (nbits w : Nat) : State :=
  { s with inbox := eventInput nbits w s.mdr :: s.inbox }

end Sys2Proof.Machine
end

