-- ==== Sys2Proof/Safety.lean ====
section
/-! DEFINITION. What counts as a legal state, in the terms the claims use: the bounds the spec states for the elements of
10_state.md, the canonical form of the SRAM list, and the RTC that is inert when disabled or absent. -/

namespace Sys2Proof.Machine

/-- The RTC on a cartridge that defines none: nothing but its battery-backed cells can differ from reset (R370, R472). -/
def Rtc.inert (r : Rtc) : Prop := r = Rtc.afterReset r.nib r.lost

/-- A legal core, for the parameters `P`. -/
structure Chip.Legal (P : Params) (c : Chip) : Prop where
  /-- `dstat` bits 6:0 are always 0 (R38) -/
  dstat_reserved : c.dec.dstat &&& 0x7F = 0
  /-- the length of a session is below 2^19 (R209) -/
  session_length : ∀ x ∈ c.dec.dlast, x.length < 2 ^ 19
  /-- the multiply-wait timer counts down from its latency (R47, R324) -/
  mulWait_le : c.math.mulWait ≤ mulLatency P
  /-- the divide-wait timer counts down from its latency (R47, R325) -/
  divWait_le : c.math.divWait ≤ divLatency P
  /-- the RTC-access-wait timer counts down from its latency (R61, R382) -/
  rtcWait_le : c.rtc.waitT ≤ rtcLatency P
  /-- the busy flag is set exactly while its timer runs (R61, R382, R413) -/
  busy_iff : c.rtc.busy = true ↔ c.rtc.waitT ≠ 0
  /-- the seconds accumulator stays in 0 to 1439 (R63) -/
  sec_lt : c.rtc.sec < 1440
  /-- while the RTC is disabled its protocol is in Idle (R372, R376) -/
  disabled_idle : c.rtc.en = false → c.rtc.state = .idle
  /-- the SRAM list is in canonical form -/
  ram_wf : Memory.wf P.ramInit c.ram = true
  /-- the SRAM list holds no address past the SRAM (R57, R108) -/
  ram_lt : ∀ x ∈ c.ram, x.1 < P.ramSize
  /-- with no RTC on the cartridge, the unit is as after reset (R370) -/
  no_rtc : P.hasRtc = false → c.rtc.inert

/-- A legal state of this machine: the core is legal and so is every snapshot queued for a restore, which the host takes
from this core (60_exceptions.md R442). -/
structure State.Legal (s : State) : Prop where
  /-- the core -/
  chip : s.chip.Legal Config.params
  /-- the queued snapshots -/
  snapshots : ∀ c, Input.restore c ∈ s.inbox → c.Legal Config.params

end Sys2Proof.Machine
end

