-- ==== Sys2Proof/Certificates/Slice0/Obligations.lean ====
section
/-! DEFINITION. The statements for the provers. An event word is written as its fields `cls ++ z ++ bank ++ a16 ++ d8`
(30_encoding.md R140). Where a statement rests on the model's own choice, or on a passage the spec marks as its own
inference or general knowledge, its docstring says so. -/

open Sys2Proof Sys2Proof.Machine

/-! Encoding and the step -/

/-- Words written out from the fields of R140 and the addresses of R145 decode to their events. -/
def Obligations.DecodesWordsWrittenFromTheMap : Prop :=
  decode 0x0000480000#40 = .ok (.rdDdata 0) ∧
  decode 0x2012480403#40 = .ok (.wrDidx 0x12 0x03) ∧
  decode 0x0000481A00#40 = .ok (.rdPbdata 0) ∧
  decode 0x2000482507#40 = .ok (.wrMopm1 0 0x07) ∧
  decode 0x007E482000#40 = .ok (.rdMopa0 0x7E) ∧
  decode 0x2000483085#40 = .ok (.wrMmbank0 0 0x85) ∧
  decode 0x200048410C#40 = .ok (.wrRtcdata 0 0x0C) ∧
  decode 0x0000480D00#40 = .ok (.rdUnmapped480D 0) ∧
  decode 0x0000484300#40 = .ok (.rdOutOfRange 0x004843) ∧
  decode 0x4000000000#40 = .ok .tick ∧
  decode 0x60E1234500#40 = .ok (.winrd 0xE12345) ∧
  decode 0x80016010BB#40 = .ok (.winwr 0x016010 0xBB)

/-- Every well-formed event is read back from its word. -/
def Obligations.DecodeEncodeRoundTrip : Prop :=
  ∀ i : Instr, i.wellFormed = true → decode (encode i) = .ok i

/-- Every word that is an event is the word of the event it spells, and that event is well formed. -/
def Obligations.EncodeDecodeRoundTrip : Prop :=
  ∀ (w : EventWord) (i : Instr), decode w = .ok i → encode i = w ∧ i.wellFormed = true

/-- R144: the reserved words, and no others, are refused; every other word is run to a next state. -/
def Obligations.StepRefusesExactlyTheReservedWords : Prop :=
  ∀ (s : State) (w : EventWord) (m : Byte) (rest : List Input), s.inbox = .event w m :: rest →
    let cls := (w.extractLsb' 37 3).toNat
    let reserved : Prop :=
      5 ≤ cls ∨ w.extractLsb' 32 5 ≠ 0 ∨ ((cls = 0 ∨ cls = 3) ∧ w.extractLsb' 0 8 ≠ 0) ∨
        (cls = 2 ∧ w.extractLsb' 0 32 ≠ 0)
    (reserved → ∃ why, step s = .refused (.reservedEncoding why)) ∧ (¬ reserved → ∃ t, step s = .next t)

/-- A step whose queued word decodes runs exactly that event, the queue, the open-bus byte and the event number moved on
(the model's own fields, logs 5, 7 and 9). -/
def Obligations.StepRunsTheDecodedEvent : Prop :=
  ∀ (s : State) (w : EventWord) (m : Byte) (rest : List Input) (i : Instr),
    s.inbox = .event w m :: rest → decode w = .ok i →
    i.wellFormed = true ∧ step s = exec i { s with inbox := rest, mdr := m, draw := s.draw + 1 }

/-- The model's choice (log 6), from R416: with no input queued the machine is paused and nothing changes. -/
def Obligations.StepPausesWithNothingQueued : Prop :=
  ∀ s : State, s.inbox = [] → step s = .next s

/-- R178: every event completes, whatever the state; reads, and only reads, return a byte. -/
def Obligations.EveryEventCompletes : Prop :=
  ∀ (i : Instr) (s : State), ∃ t, exec i s = .next t ∧ t.inbox = s.inbox ∧ t.mdr = s.mdr ∧ t.draw = s.draw ∧
    (t.ret.isSome = true ↔ (encode i).extractLsb' 37 3 = 0b000#3 ∨ (encode i).extractLsb' 37 3 = 0b011#3)

/-! The dispatcher (40_dispatcher.md) -/

/-- R172 to R175, on the events: a read of an address without behaviour returns `mdr`, a write does nothing. -/
def Obligations.EventsWithoutBehaviour : Prop :=
  ∀ (b d : Byte) (a : Addr24) (s : State),
    (∀ i ∈ [Instr.rdUnmapped480D b, .rdUnmapped480E b, .rdUnmapped480F b, .rdUnmapped481B b, .rdUnmapped481C b,
        .rdUnmapped481D b, .rdUnmapped481E b, .rdUnmapped481F b, .rdUnmapped4835 b, .rdUnmapped4836 b,
        .rdUnmapped4837 b, .rdUnmapped4838 b, .rdUnmapped4839 b, .rdUnmapped483A b, .rdUnmapped483B b,
        .rdUnmapped483C b, .rdUnmapped483D b, .rdUnmapped483E b, .rdUnmapped483F b, .rdOutOfRange a],
      exec i s = .next { s with ret := some s.mdr }) ∧
    (∀ i ∈ [Instr.wrUnmapped480D b d, .wrUnmapped480E b d, .wrUnmapped480F b d, .wrUnmapped481B b d,
        .wrUnmapped481C b d, .wrUnmapped481D b d, .wrUnmapped481E b d, .wrUnmapped481F b d, .wrUnmapped4835 b d,
        .wrUnmapped4836 b d, .wrUnmapped4837 b d, .wrUnmapped4838 b d, .wrUnmapped4839 b d, .wrUnmapped483A b d,
        .wrUnmapped483B b d, .wrUnmapped483C b d, .wrUnmapped483D b d, .wrUnmapped483E b d, .wrUnmapped483F b d,
        .wrOutOfRange a d],
      exec i s = .next { s with ret := none })

/-- R172 to R175, on the words: at every address outside 0x4800 to 0x4842, and at every unmapped address inside, a queued
read returns the open-bus byte that came with it and a queued write does nothing. -/
def Obligations.AddressesWithoutBehaviour : Prop :=
  ∀ (s : State) (b d m : Byte) (a16 : Addr16) (rest : List Input),
    (a16.toNat < 0x4800 ∨ 0x4842 < a16.toNat ∨ (0x480D ≤ a16.toNat ∧ a16.toNat ≤ 0x480F) ∨
      (0x481B ≤ a16.toNat ∧ a16.toNat ≤ 0x481F) ∨ (0x4835 ≤ a16.toNat ∧ a16.toNat ≤ 0x483F)) →
    (s.inbox = .event (0b000#3 ++ 0#5 ++ b ++ a16 ++ 0#8) m :: rest →
      step s = .next { s with inbox := rest, mdr := m, draw := s.draw + 1, ret := some m }) ∧
    (s.inbox = .event (0b001#3 ++ 0#5 ++ b ++ a16 ++ d) m :: rest →
      step s = .next { s with inbox := rest, mdr := m, draw := s.draw + 1, ret := none })

/-- The dispatcher takes the low 16 bits of the host address and ignores the upper bits (R101, R170, R171). -/
def Obligations.UpperAddressBitsAreIgnored : Prop :=
  ∀ (s : State) (b b' d m : Byte) (a16 : Addr16) (rest : List Input),
    step { s with inbox := .event (0b000#3 ++ 0#5 ++ b ++ a16 ++ 0#8) m :: rest } =
      step { s with inbox := .event (0b000#3 ++ 0#5 ++ b' ++ a16 ++ 0#8) m :: rest } ∧
    step { s with inbox := .event (0b001#3 ++ 0#5 ++ b ++ a16 ++ d) m :: rest } =
      step { s with inbox := .event (0b001#3 ++ 0#5 ++ b' ++ a16 ++ d) m :: rest }

/-- R176, register by register: a write of a read-only register changes no state. -/
def Obligations.ReadOnlyWritesChangeNothing : Prop :=
  ∀ (b d : Byte) (s : State),
    ∀ i ∈ [Instr.wrDdata b d, .wrDstat b d, .wrMres0 b d, .wrMres1 b d, .wrMres2 b d, .wrMres3 b d, .wrMrem0 b d,
        .wrMrem1 b d, .wrMstat b d, .wrRtcstat b d],
      exec i s = .next { s with ret := none }

/-- The spec's inference R179: a read of a register with no read side effect changes no state, so a second read with no
event between returns the same byte. -/
def Obligations.PlainReadsRepeat : Prop :=
  ∀ (b : Byte) (s : State),
    ∀ i ∈ [Instr.rdDtbl0 b, .rdDtbl1 b, .rdDtbl2 b, .rdDidx b, .rdDaux0 b, .rdDaux1 b, .rdDaux2 b, .rdDaux3 b,
        .rdDlen0 b, .rdDlen1 b, .rdDaux4 b, .rdPaadr0 b, .rdPaadr1 b, .rdPaadr2 b, .rdPbinc0 b, .rdPbinc1 b,
        .rdPbadr0 b, .rdPbadr1 b, .rdPmode b, .rdPbadr2 b, .rdMopa0 b, .rdMopa1 b, .rdMaux0 b, .rdMaux1 b,
        .rdMopm0 b, .rdMopm1 b, .rdMopd0 b, .rdMopd1 b, .rdMres0 b, .rdMres1 b, .rdMres2 b, .rdMres3 b, .rdMrem0 b,
        .rdMrem1 b, .rdMsign b, .rdMstat b, .rdMmbank0 b, .rdMmbank1 b, .rdMmbank2 b, .rdMmbank3 b, .rdMmsize b,
        .rdRtcen b],
      ∃ v : Byte, exec i s = .next { s with ret := some v } ∧
        ∀ (m : Byte) (n : Nat), exec i { s with ret := some v, mdr := m, draw := n } =
          .next { s with ret := some v, mdr := m, draw := n }

/-! The decompression front-end (41_decompression.md) -/

/-- R202 to R222: what each plain register reads; no state changes. -/
def Obligations.DecompressionRegisterReads : Prop :=
  ∀ (b : Byte) (s : State),
    exec (.rdDtbl0 b) s = .next { s with ret := some (s.chip.dec.dtbl.extractLsb' 0 8) } ∧
    exec (.rdDtbl1 b) s = .next { s with ret := some (s.chip.dec.dtbl.extractLsb' 8 8) } ∧
    exec (.rdDtbl2 b) s = .next { s with ret := some (s.chip.dec.dtbl.extractLsb' 16 8) } ∧
    exec (.rdDidx b) s = .next { s with ret := some s.chip.dec.didx } ∧
    exec (.rdDaux0 b) s = .next { s with ret := some s.chip.dec.daux[0] } ∧
    exec (.rdDaux1 b) s = .next { s with ret := some s.chip.dec.daux[1] } ∧
    exec (.rdDaux2 b) s = .next { s with ret := some s.chip.dec.daux[2] } ∧
    exec (.rdDaux3 b) s = .next { s with ret := some s.chip.dec.daux[3] } ∧
    exec (.rdDlen0 b) s = .next { s with ret := some (s.chip.dec.dlen.extractLsb' 0 8) } ∧
    exec (.rdDlen1 b) s = .next { s with ret := some (s.chip.dec.dlen.extractLsb' 8 8) } ∧
    exec (.rdDaux4 b) s = .next { s with ret := some s.chip.dec.daux[4] }

/-- R203 to R223: what each plain register stores; no other effect. -/
def Obligations.DecompressionRegisterWrites : Prop :=
  ∀ (b d : Byte) (s : State),
    exec (.wrDtbl0 b d) s =
      .next { s with chip.dec.dtbl := s.chip.dec.dtbl.extractLsb' 8 16 ++ d, ret := none } ∧
    exec (.wrDtbl1 b d) s =
      .next { s with
        chip.dec.dtbl := (s.chip.dec.dtbl.extractLsb' 16 8 ++ d) ++ s.chip.dec.dtbl.extractLsb' 0 8, ret := none } ∧
    exec (.wrDtbl2 b d) s =
      .next { s with chip.dec.dtbl := d ++ s.chip.dec.dtbl.extractLsb' 0 16, ret := none } ∧
    exec (.wrDaux0 b d) s = .next { s with chip.dec.daux := s.chip.dec.daux.set 0 d, ret := none } ∧
    exec (.wrDaux1 b d) s = .next { s with chip.dec.daux := s.chip.dec.daux.set 1 d, ret := none } ∧
    exec (.wrDaux2 b d) s = .next { s with chip.dec.daux := s.chip.dec.daux.set 2 d, ret := none } ∧
    exec (.wrDaux3 b d) s = .next { s with chip.dec.daux := s.chip.dec.daux.set 3 d, ret := none } ∧
    exec (.wrDaux4 b d) s = .next { s with chip.dec.daux := s.chip.dec.daux.set 4 d, ret := none } ∧
    exec (.wrDlen0 b d) s =
      .next { s with chip.dec.dlen := s.chip.dec.dlen.extractLsb' 8 8 ++ d, ret := none } ∧
    exec (.wrDlen1 b d) s =
      .next { s with chip.dec.dlen := d ++ s.chip.dec.dlen.extractLsb' 0 8, ret := none }

/-- R200: the counter is decremented modulo 2^16, session or not, and the collaborator's draw is returned (the draw is
free: log 9). -/
def Obligations.DdataReadCountsDown : Prop :=
  ∀ (b : Byte) (s : State), ∃ n : BitVec 16,
    exec (.rdDdata b) s = .next { s with
      chip.dec.dlen := n
      ret := some (Config.params.decompNext s.chip.dec.dlast s.draw) } ∧
    n.toNat = (s.chip.dec.dlen.toNat + (2 ^ 16 - 1)) % 2 ^ 16

/-- R209 and R103: the descriptor at `(dtbl + 4 * didx) mod 2^24` gives the mode and the big-endian offset, the length is
`dlen << mode`, and the session is recorded with the status flag set; nothing else changes. -/
def Obligations.IndexWriteStartsSession : Prop :=
  ∀ (b d : Byte) (s : State), ∃ x : DecompSession,
    exec (.wrDidx b d) s = .next { s with
      chip.dec.didx := d
      chip.dec.dlast := some x
      chip.dec.dstat := 0x80
      ret := none } ∧
    (let byteAt : Nat → Nat := fun k =>
      (dromRead Config.params s.draw s.chip.mmu.msize
        (BitVec.ofNat 24 (s.chip.dec.dtbl.toNat + 4 * d.toNat + k))).toNat
     x.mode.toNat = byteAt 0 % 4 ∧
     x.offset.toNat = byteAt 1 * 2 ^ 16 + byteAt 2 * 2 ^ 8 + byteAt 3 ∧
     x.length = s.chip.dec.dlen.toNat * 2 ^ x.mode.toNat ∧ x.length < 2 ^ 19)

/-- R224: the status byte is returned and its bit 7 cleared; where bits 6:0 are 0 (R38), a second read returns 0x00. -/
def Obligations.DstatReadClearsBusy : Prop :=
  ∀ (b : Byte) (s : State),
    exec (.rdDstat b) s = .next { s with
      chip.dec.dstat := 0#1 ++ s.chip.dec.dstat.extractLsb' 0 7
      ret := some s.chip.dec.dstat } ∧
    (s.chip.dec.dstat &&& 0x7F = 0 → ∀ t, exec (.rdDstat b) s = .next t →
      exec (.rdDstat b) t = .next { t with ret := some 0x00 })

/-! The data port (42_data_port.md) -/

/-- R242 to R258: what each address, increment and mode register reads; no state changes. -/
def Obligations.DataPortRegisterReads : Prop :=
  ∀ (b : Byte) (s : State),
    exec (.rdPaadr0 b) s = .next { s with ret := some (s.chip.port.curA.extractLsb' 0 8) } ∧
    exec (.rdPaadr1 b) s = .next { s with ret := some (s.chip.port.curA.extractLsb' 8 8) } ∧
    exec (.rdPaadr2 b) s = .next { s with ret := some (s.chip.port.curA.extractLsb' 16 8) } ∧
    exec (.rdPbinc0 b) s = .next { s with ret := some (s.chip.port.incB.extractLsb' 0 8) } ∧
    exec (.rdPbinc1 b) s = .next { s with ret := some (s.chip.port.incB.extractLsb' 8 8) } ∧
    exec (.rdPbadr0 b) s = .next { s with ret := some (s.chip.port.curB.extractLsb' 0 8) } ∧
    exec (.rdPbadr1 b) s = .next { s with ret := some (s.chip.port.curB.extractLsb' 8 8) } ∧
    exec (.rdPbadr2 b) s = .next { s with ret := some (s.chip.port.curB.extractLsb' 16 8) } ∧
    exec (.rdPmode b) s = .next { s with ret := some (0#6 ++ s.chip.port.pmode) }

/-- R243 to R259: an address byte is stored and the cursor's visible byte refreshed at the new address; the latches are
not affected. -/
def Obligations.CursorAddressWritesRefresh : Prop :=
  ∀ (b d : Byte) (s : State),
    let a := s.chip.port.curA
    let c := s.chip.port.curB
    let rom : Addr24 → Byte := dromRead Config.params s.draw s.chip.mmu.msize
    exec (.wrPaadr0 b d) s = .next { s with
      chip.port.curA := a.extractLsb' 8 16 ++ d
      chip.port.visA := rom (a.extractLsb' 8 16 ++ d)
      ret := none } ∧
    exec (.wrPaadr1 b d) s = .next { s with
      chip.port.curA := (a.extractLsb' 16 8 ++ d) ++ a.extractLsb' 0 8
      chip.port.visA := rom ((a.extractLsb' 16 8 ++ d) ++ a.extractLsb' 0 8)
      ret := none } ∧
    exec (.wrPaadr2 b d) s = .next { s with
      chip.port.curA := d ++ a.extractLsb' 0 16
      chip.port.visA := rom (d ++ a.extractLsb' 0 16)
      ret := none } ∧
    exec (.wrPbadr0 b d) s = .next { s with
      chip.port.curB := c.extractLsb' 8 16 ++ d
      chip.port.visB := rom (c.extractLsb' 8 16 ++ d)
      ret := none } ∧
    exec (.wrPbadr1 b d) s = .next { s with
      chip.port.curB := (c.extractLsb' 16 8 ++ d) ++ c.extractLsb' 0 8
      chip.port.visB := rom ((c.extractLsb' 16 8 ++ d) ++ c.extractLsb' 0 8)
      ret := none } ∧
    exec (.wrPbadr2 b d) s = .next { s with
      chip.port.curB := d ++ c.extractLsb' 0 16
      chip.port.visB := rom (d ++ c.extractLsb' 0 16)
      ret := none }

/-- R249, R251, R257: each half of the increment sets its latch; the mode register stores the directions and clears both
latches, moving no cursor. -/
def Obligations.IncrementHalvesAndCommit : Prop :=
  ∀ (b d : Byte) (s : State),
    exec (.wrPbinc0 b d) s = .next { s with
      chip.port.incB := s.chip.port.incB.extractLsb' 8 8 ++ d
      chip.port.latLo := true
      ret := none } ∧
    exec (.wrPbinc1 b d) s = .next { s with
      chip.port.incB := d ++ s.chip.port.incB.extractLsb' 0 8
      chip.port.latHi := true
      ret := none } ∧
    exec (.wrPmode b d) s = .next { s with
      chip.port.pmode := d.extractLsb' 0 2
      chip.port.latLo := false
      chip.port.latHi := false
      ret := none }

/-- R240, R241, R260: an access of cursor A's data register moves the cursor one step in its direction modulo 2^24 and
refreshes the visible byte; a read returns the old one. -/
def Obligations.PadataMovesCursorA : Prop :=
  ∀ (b d : Byte) (s : State),
    let cur := s.chip.port.curA.toNat
    let next : Addr24 :=
      BitVec.ofNat 24 (if s.chip.port.pmode.getLsbD 0 = true then cur + (2 ^ 24 - 1) else cur + 1)
    let seen : Byte := dromRead Config.params s.draw s.chip.mmu.msize next
    exec (.rdPadata b) s = .next { s with
      chip.port.curA := next, chip.port.visA := seen, ret := some s.chip.port.visA } ∧
    exec (.wrPadata b d) s = .next { s with chip.port.curA := next, chip.port.visA := seen, ret := none }

/-- R263, R270, R271: an access of cursor B's data register applies the increment, clears the latches and refreshes the
visible byte when both latches are set, and changes nothing otherwise; a read returns the old visible byte. -/
def Obligations.PbdataFiresOnlyWithBothLatches : Prop :=
  ∀ (b d : Byte) (s : State),
    let p := s.chip.port
    let next : Addr24 :=
      BitVec.ofNat 24 (if p.pmode.getLsbD 1 = true then p.curB.toNat + (2 ^ 24 - p.incB.toNat)
        else p.curB.toNat + p.incB.toNat)
    let after : DataPort :=
      if p.latLo = true ∧ p.latHi = true then
        { p with
          curB := next
          visB := dromRead Config.params s.draw s.chip.mmu.msize next
          latLo := false
          latHi := false }
      else p
    exec (.rdPbdata b) s = .next { s with chip.port := after, ret := some p.visB } ∧
    exec (.wrPbdata b d) s = .next { s with chip.port := after, ret := none }

/-- "N consecutive reads from the data register advance the address cursor by exactly N steps in the configured
direction" (R260), as a run of the machine: after the N reads nothing else of the core has changed, and the visible byte
is the data ROM's at the final cursor. -/
def Obligations.ReadsOfPadataMoveCursorAByTheirNumber : Prop :=
  ∀ (n : Nat) (b m : Byte) (s : State) (rest : List Input),
    s.inbox = List.replicate n (.event (0b000#3 ++ 0#5 ++ b ++ 0x4810#16 ++ 0#8) m) ++ rest →
    ∃ t : State, Host.Core.run Sys2Proof.core n s = .next t ∧ t.inbox = rest ∧
      t.chip = { s.chip with port.curA := t.chip.port.curA, port.visA := t.chip.port.visA } ∧
      t.chip.port.curA.toNat =
        (s.chip.port.curA.toNat + (if s.chip.port.pmode.getLsbD 0 = true then n * (2 ^ 24 - 1) else n)) % 2 ^ 24 ∧
      (n ≠ 0 → t.chip.port.visA =
        dromRead Config.params (s.draw + n) s.chip.mmu.msize t.chip.port.curA)

/-- Cursor B's latch as a run of the machine (R263, 70_reset_and_hazards.md R483): any sequence of reads (true) and writes
(false) of its data register applies the increment once if both latches are set at its start, and never otherwise. -/
def Obligations.OneIncrementPerDoubleWrite : Prop :=
  ∀ (accesses : List Bool) (b d m : Byte) (s : State) (rest : List Input),
    s.inbox = accesses.map (fun r =>
        if r then Input.event (0b000#3 ++ 0#5 ++ b ++ 0x481A#16 ++ 0#8) m
        else Input.event (0b001#3 ++ 0#5 ++ b ++ 0x481A#16 ++ d) m) ++ rest →
    ∃ t : State, Host.Core.run Sys2Proof.core accesses.length s = .next t ∧ t.inbox = rest ∧
      (let p := s.chip.port
       let next : Addr24 :=
        BitVec.ofNat 24 (if p.pmode.getLsbD 1 = true then p.curB.toNat + (2 ^ 24 - p.incB.toNat)
          else p.curB.toNat + p.incB.toNat)
       t.chip = if p.latLo = true ∧ p.latHi = true ∧ accesses ≠ [] then
          { s.chip with
            port.curB := next
            port.visB := dromRead Config.params (s.draw + 1) s.chip.mmu.msize next
            port.latLo := false
            port.latHi := false }
        else s.chip)

/-- The spec's inference R264: cursor A's events neither change nor depend on cursor B's state, and cursor B's neither
change nor depend on cursor A's. -/
def Obligations.CursorsAreIndependent : Prop :=
  ∀ (b d : Byte) (i : Instr) (s s' t t' : State),
    exec i s = .next t → exec i s' = .next t' → s'.chip.mmu = s.chip.mmu → s'.draw = s.draw →
    (i ∈ [Instr.rdPadata b, .wrPadata b d, .rdPaadr0 b, .wrPaadr0 b d, .rdPaadr1 b, .wrPaadr1 b d, .rdPaadr2 b,
        .wrPaadr2 b d] →
      (t.chip.port = { s.chip.port with curA := t.chip.port.curA, visA := t.chip.port.visA } ∧
       (s'.chip.port.curA = s.chip.port.curA → s'.chip.port.visA = s.chip.port.visA →
        s'.chip.port.pmode.getLsbD 0 = s.chip.port.pmode.getLsbD 0 →
        t'.chip.port.curA = t.chip.port.curA ∧ t'.chip.port.visA = t.chip.port.visA ∧ t'.ret = t.ret))) ∧
    (i ∈ [Instr.rdPbdata b, .wrPbdata b d, .rdPbadr0 b, .wrPbadr0 b d, .rdPbadr1 b, .wrPbadr1 b d, .rdPbadr2 b,
        .wrPbadr2 b d, .rdPbinc0 b, .wrPbinc0 b d, .rdPbinc1 b, .wrPbinc1 b d] →
      (t.chip.port.curA = s.chip.port.curA ∧ t.chip.port.visA = s.chip.port.visA ∧
       t.chip.port.pmode = s.chip.port.pmode ∧
       (s'.chip.port.curB = s.chip.port.curB → s'.chip.port.visB = s.chip.port.visB →
        s'.chip.port.incB = s.chip.port.incB → s'.chip.port.latLo = s.chip.port.latLo →
        s'.chip.port.latHi = s.chip.port.latHi → s'.chip.port.pmode.getLsbD 1 = s.chip.port.pmode.getLsbD 1 →
        t'.chip.port.curB = t.chip.port.curB ∧ t'.chip.port.visB = t.chip.port.visB ∧
        t'.chip.port.incB = t.chip.port.incB ∧ t'.chip.port.latLo = t.chip.port.latLo ∧
        t'.chip.port.latHi = t.chip.port.latHi ∧ t'.ret = t.ret)))

/-! The math unit (43_math.md) -/

/-- R290 to R304: what each operand register reads; no state changes. -/
def Obligations.MathOperandReads : Prop :=
  ∀ (b : Byte) (s : State),
    exec (.rdMopa0 b) s = .next { s with ret := some (s.chip.math.mopA.extractLsb' 0 8) } ∧
    exec (.rdMopa1 b) s = .next { s with ret := some (s.chip.math.mopA.extractLsb' 8 8) } ∧
    exec (.rdMaux0 b) s = .next { s with ret := some (s.chip.math.maux.extractLsb' 0 8) } ∧
    exec (.rdMaux1 b) s = .next { s with ret := some (s.chip.math.maux.extractLsb' 8 8) } ∧
    exec (.rdMopm0 b) s = .next { s with ret := some (s.chip.math.mopM.extractLsb' 0 8) } ∧
    exec (.rdMopm1 b) s = .next { s with ret := some (s.chip.math.mopM.extractLsb' 8 8) } ∧
    exec (.rdMopd0 b) s = .next { s with ret := some (s.chip.math.mopD.extractLsb' 0 8) } ∧
    exec (.rdMopd1 b) s = .next { s with ret := some (s.chip.math.mopD.extractLsb' 8 8) }

/-- R306 to R320: what the result, remainder, sign and status registers read; no state changes. -/
def Obligations.MathResultReads : Prop :=
  ∀ (b : Byte) (s : State),
    exec (.rdMres0 b) s = .next { s with ret := some (s.chip.math.mres.extractLsb' 0 8) } ∧
    exec (.rdMres1 b) s = .next { s with ret := some (s.chip.math.mres.extractLsb' 8 8) } ∧
    exec (.rdMres2 b) s = .next { s with ret := some (s.chip.math.mres.extractLsb' 16 8) } ∧
    exec (.rdMres3 b) s = .next { s with ret := some (s.chip.math.mres.extractLsb' 24 8) } ∧
    exec (.rdMrem0 b) s = .next { s with ret := some (s.chip.math.mrem.extractLsb' 0 8) } ∧
    exec (.rdMrem1 b) s = .next { s with ret := some (s.chip.math.mrem.extractLsb' 8 8) } ∧
    exec (.rdMsign b) s = .next { s with ret := some (if s.chip.math.msign = true then 0x01 else 0x00) } ∧
    exec (.rdMstat b) s =
      .next { s with ret := some (if s.chip.math.mulWait ≠ 0 ∨ s.chip.math.divWait ≠ 0 then 0x80 else 0x40) }

/-- R291 to R303 and R319: what the operand bytes that do not arm, and the sign register, store; no other effect, in
particular none on an operation in flight (R327, R328). -/
def Obligations.MathOperandWrites : Prop :=
  ∀ (b d : Byte) (s : State),
    exec (.wrMopa0 b d) s =
      .next { s with chip.math.mopA := s.chip.math.mopA.extractLsb' 8 8 ++ d, ret := none } ∧
    exec (.wrMopa1 b d) s =
      .next { s with chip.math.mopA := d ++ s.chip.math.mopA.extractLsb' 0 8, ret := none } ∧
    exec (.wrMaux0 b d) s =
      .next { s with chip.math.maux := s.chip.math.maux.extractLsb' 8 8 ++ d, ret := none } ∧
    exec (.wrMaux1 b d) s =
      .next { s with chip.math.maux := d ++ s.chip.math.maux.extractLsb' 0 8, ret := none } ∧
    exec (.wrMopm0 b d) s =
      .next { s with chip.math.mopM := s.chip.math.mopM.extractLsb' 8 8 ++ d, ret := none } ∧
    exec (.wrMopd0 b d) s =
      .next { s with chip.math.mopD := s.chip.math.mopD.extractLsb' 8 8 ++ d, ret := none } ∧
    exec (.wrMsign b d) s = .next { s with chip.math.msign := d.getLsbD 0, ret := none }

/-- R301, R322, R324: the write of 0x4825 stores the byte, captures the exact product in the sign mode of the moment and
loads the timer; the result latch is not written, and the status reads busy from then on. -/
def Obligations.MultiplyArms : Prop :=
  ∀ (b d : Byte) (s : State), ∃ (p : BitVec 32) (t : State),
    let multiplier : BitVec 16 := d ++ s.chip.math.mopM.extractLsb' 0 8
    exec (.wrMopm1 b d) s = .next t ∧
    t = { s with
      chip.math.mopM := multiplier
      chip.math.mulPend := p
      chip.math.mulWait := Config.params.mulLatencyPred + 1
      ret := none } ∧
    (s.chip.math.msign = false → p.toNat = s.chip.math.mopA.toNat * multiplier.toNat) ∧
    (s.chip.math.msign = true → p.toInt = s.chip.math.mopA.toInt * multiplier.toInt) ∧
    exec (.rdMstat b) t = .next { t with ret := some 0x80 }

/-- R305, R323, R325: the write of 0x4827 stores the byte, captures quotient and remainder in the sign mode of the moment
(truncated toward zero; all bits set and the dividend for a zero divisor) and loads the timer. -/
def Obligations.DivideArms : Prop :=
  ∀ (b d : Byte) (s : State), ∃ (q : BitVec 32) (r : BitVec 16) (t : State),
    let dividend := s.chip.math.mopA
    let divisor : BitVec 16 := d ++ s.chip.math.mopD.extractLsb' 0 8
    exec (.wrMopd1 b d) s = .next t ∧
    t = { s with
      chip.math.mopD := divisor
      chip.math.divPendQ := q
      chip.math.divPendR := r
      chip.math.divWait := Config.params.divLatencyPred + 1
      ret := none } ∧
    (divisor = 0 → r = dividend ∧ q = if s.chip.math.msign = true then 0xFFFFFFFF else 0x0000FFFF) ∧
    (divisor ≠ 0 → s.chip.math.msign = false →
      q.toNat = dividend.toNat / divisor.toNat ∧ r.toNat = dividend.toNat % divisor.toNat) ∧
    (divisor ≠ 0 → s.chip.math.msign = true →
      q.toInt = dividend.toInt.tdiv divisor.toInt ∧ r.toInt = dividend.toInt.tmod divisor.toInt) ∧
    exec (.rdMstat b) t = .next { t with ret := some 0x80 }

/-- R329 to R332, R411, R412: the math unit after n TICKs with no host event between. Each operation completes exactly
once, at the end of its own timer; the later completion holds the shared latch, and in one TICK the divide wins. -/
def Obligations.MathUnitAfterTicks : Prop :=
  ∀ (hasRtc : Bool) (n : Nat) (c : Chip),
    let m := c.math
    let mulDone : Prop := 0 < m.mulWait ∧ m.mulWait ≤ n
    let divDone : Prop := 0 < m.divWait ∧ m.divWait ≤ n
    ∃ m' : MathUnit, (advance hasRtc n c).math = m' ∧
      m' = { m with mulWait := m.mulWait - n, divWait := m.divWait - n, mres := m'.mres, mrem := m'.mrem } ∧
      (divDone → m'.mrem = m.divPendR) ∧ (¬ divDone → m'.mrem = m.mrem) ∧
      (¬ mulDone → ¬ divDone → m'.mres = m.mres) ∧
      (mulDone → (divDone → m.divWait < m.mulWait) → m'.mres = m.mulPend) ∧
      (divDone → (mulDone → m.mulWait ≤ m.divWait) → m'.mres = m.divPendQ)

/-- The spec's inference R326, as a run of the machine: after the arming write and k TICKs the result latch holds the new
result exactly when k is at least the latency, and its old contents before. The other operation is idle. -/
def Obligations.ResultsVisibleExactlyAfterLatency : Prop :=
  ∀ (s : State) (b d m : Byte) (k : Nat) (rest : List Input),
    (s.chip.math.divWait = 0 →
      s.inbox = .event (0b001#3 ++ 0#5 ++ b ++ 0x4825#16 ++ d) m ::
        (List.replicate k (.event 0x4000000000#40 m) ++ rest) →
      ∃ t : State, Host.Core.run Sys2Proof.core (k + 1) s = .next t ∧ t.inbox = rest ∧
        t.chip.math.mrem = s.chip.math.mrem ∧
        t.chip.math.mres =
          if mulLatency Config.params ≤ k then
            mulCompute s.chip.math.mopA (d ++ s.chip.math.mopM.extractLsb' 0 8) s.chip.math.msign
          else s.chip.math.mres) ∧
    (s.chip.math.mulWait = 0 →
      s.inbox = .event (0b001#3 ++ 0#5 ++ b ++ 0x4827#16 ++ d) m ::
        (List.replicate k (.event 0x4000000000#40 m) ++ rest) →
      ∃ t : State, Host.Core.run Sys2Proof.core (k + 1) s = .next t ∧ t.inbox = rest ∧
        t.chip.math.mres =
          (if divLatency Config.params ≤ k then
            divQuotient s.chip.math.mopA (d ++ s.chip.math.mopD.extractLsb' 0 8) s.chip.math.msign
          else s.chip.math.mres) ∧
        t.chip.math.mrem =
          if divLatency Config.params ≤ k then
            divRemainder s.chip.math.mopA (d ++ s.chip.math.mopD.extractLsb' 0 8) s.chip.math.msign
          else s.chip.math.mrem)

/-- "Written only by multiply and divide completion" (R50, and the inference R326): no event but a TICK that ends a timer
changes the result latch or the remainder. -/
def Obligations.OnlyCompletionWritesTheResultLatch : Prop :=
  ∀ (i : Instr) (s t : State), exec i s = .next t →
    (i ≠ .tick ∨ (s.chip.math.mulWait ≠ 1 ∧ s.chip.math.divWait ≠ 1)) →
    t.chip.math.mres = s.chip.math.mres ∧ t.chip.math.mrem = s.chip.math.mrem

/-! The memory-mapping unit and the windows (44_mmu_windows.md, 20_memory.md) -/

/-- R342 to R348 (and 0x4830, whose RAM-enable place at bit 7 the spec takes from general knowledge, G4): what each
register reads; no state changes. -/
def Obligations.MmuRegisterReads : Prop :=
  ∀ (b : Byte) (s : State),
    exec (.rdMmbank0 b) s =
      .next { s with ret := some ((BitVec.ofBool s.chip.mmu.ramEn ++ 0#4) ++ s.chip.mmu.bank[0]) } ∧
    exec (.rdMmbank1 b) s = .next { s with ret := some (0#5 ++ s.chip.mmu.bank[1]) } ∧
    exec (.rdMmbank2 b) s = .next { s with ret := some (0#5 ++ s.chip.mmu.bank[2]) } ∧
    exec (.rdMmbank3 b) s = .next { s with ret := some (0#5 ++ s.chip.mmu.bank[3]) } ∧
    exec (.rdMmsize b) s =
      .next { s with ret := some ((0#5 ++ BitVec.ofBool s.chip.mmu.mfast1) ++ s.chip.mmu.msize) }

/-- R343 to R349 (and 0x4830, whose RAM-enable place at bit 7 the spec takes from general knowledge, G4): what each
register stores, the other bits discarded; no other effect. -/
def Obligations.MmuRegisterWrites : Prop :=
  ∀ (b d : Byte) (s : State),
    exec (.wrMmbank0 b d) s = .next { s with
      chip.mmu.bank := s.chip.mmu.bank.set 0 (d.extractLsb' 0 3)
      chip.mmu.ramEn := d.getLsbD 7
      ret := none } ∧
    exec (.wrMmbank1 b d) s =
      .next { s with chip.mmu.bank := s.chip.mmu.bank.set 1 (d.extractLsb' 0 3), ret := none } ∧
    exec (.wrMmbank2 b d) s =
      .next { s with chip.mmu.bank := s.chip.mmu.bank.set 2 (d.extractLsb' 0 3), ret := none } ∧
    exec (.wrMmbank3 b d) s =
      .next { s with chip.mmu.bank := s.chip.mmu.bank.set 3 (d.extractLsb' 0 3), ret := none } ∧
    exec (.wrMmsize b d) s = .next { s with
      chip.mmu.msize := d.extractLsb' 0 2
      chip.mmu.mfast1 := d.getLsbD 2
      ret := none }

/-- The address patterns are the bank and offset ranges of 20_memory.md's table (the spec takes them from general
knowledge, G1 and G3, log 15), so no address is in two windows or in a ROM window and the RAM window. -/
def Obligations.WindowPatternsAreBankRanges : Prop :=
  ∀ a : Addr24,
    let bank := (a.extractLsb' 16 8).toNat
    let off := (a.extractLsb' 0 16).toNat
    (∀ k : Fin 4, windowOf a = some k ↔
      ((0x10 * k.val ≤ bank ∧ bank ≤ 0x10 * k.val + 0x0F ∨
          0x80 + 0x10 * k.val ≤ bank ∧ bank ≤ 0x80 + 0x10 * k.val + 0x0F) ∧ 0x8000 ≤ off) ∨
        (0xC0 + 0x10 * k.val ≤ bank ∧ bank ≤ 0xC0 + 0x10 * k.val + 0x0F)) ∧
    (inRamWindow a = true ↔
      (bank ≤ 0x3F ∨ 0x80 ≤ bank ∧ bank ≤ 0xBF) ∧ 0x6000 ≤ off ∧ off ≤ 0x7FFF)

/-- What a window read returns, by the window of its address; no state changes. Rests on the patterns, the fast-path
offsets and the SRAM offset that the spec takes from general knowledge (G1 to G3, log 15). -/
def Obligations.WindowReadBytes : Prop :=
  ∀ (a : Addr24) (s : State),
    let mmu := s.chip.mmu
    let off := a.toNat % 2 ^ 20
    let banked : BitVec 3 → Byte := fun bk =>
      dromRead Config.params s.draw mmu.msize (BitVec.ofNat 24 (bk.toNat * 2 ^ 20 + off))
    let sram := mirror Config.params ((a.toNat / 2 ^ 16 % 2 ^ 6) * 2 ^ 13 + a.toNat % 2 ^ 13) Config.params.ramSize
    let answers : Byte → Prop := fun v => exec (.winrd a) s = .next { s with ret := some v }
    (windowOf a = some 0 → answers
      (if Config.params.hasPromFixed = true then promRead Config.params s.draw off else banked mmu.bank[0])) ∧
    (windowOf a = some 1 → answers
      (if mmu.mfast1 = true then promRead Config.params s.draw (0x100000 + off) else banked mmu.bank[1])) ∧
    (windowOf a = some 2 → answers (banked mmu.bank[2])) ∧
    (windowOf a = some 3 → answers (banked mmu.bank[3])) ∧
    (windowOf a = none → inRamWindow a = true → answers
      (if mmu.ramEn = true ∧ Config.params.ramSize ≠ 0 then Memory.read Config.params.ramInit s.chip.ram sram
       else s.mdr)) ∧
    (windowOf a = none → inRamWindow a = false → answers s.mdr)

/-- What a window write stores and what it leaves: the SRAM cell of its address, if it reaches one, and every other byte
of SRAM as it was; no other state. Rests on the RAM window that the spec takes from general knowledge (G3, log 15). -/
def Obligations.WindowWriteStoresOneByte : Prop :=
  (∀ (a : Addr24) (d : Byte) (s : State),
    exec (.winwr a d) s =
      .next { s with chip.ram := windowStore Config.params s.chip a d, ret := none }) ∧
  (∀ (P : Params) (c : Chip) (a : Addr24) (d : Byte),
    (∀ o : Nat, ramCell P c.mmu a = some o →
      (Memory.wf P.ramInit c.ram = true → Memory.read P.ramInit (windowStore P c a d) o = d) ∧
      (∀ x : Nat, x ≠ o → Memory.read P.ramInit (windowStore P c a d) x = Memory.read P.ramInit c.ram x)) ∧
    (ramCell P c.mmu a = none → windowStore P c a d = c.ram) ∧
    (∀ o : Nat, ramCell P c.mmu a = some o ↔
      inRamWindow a = true ∧ c.mmu.ramEn = true ∧ P.ramSize ≠ 0 ∧
        o = mirror P ((a.toNat / 2 ^ 16 % 2 ^ 6) * 2 ^ 13 + a.toNat % 2 ^ 13) P.ramSize))

/-- What a data-ROM read (R104, R105) and a fast path's program-ROM read (R107) return, and what a RAM-window address
reaches (R108), for every `mirror`: the byte of the store at the translated offset, which stays inside the store (R8). The
size mode keeps the low 20, 21, 22 or 23 address bits, so in the 8 Mbit mode every bank aliases bank 0. A `mirror` that has
its law already is used as it is (log 2); an empty ROM gives its free byte (U1, log 10). -/
def Obligations.TranslationStaysInsideTheStores : Prop :=
  ∀ (P : Params) (msize : BitVec 2) (a : Addr24) (bk bk' : BitVec 3) (mmu : Mmu) (o draw offset size : Nat),
    (P.dromSize ≠ 0 →
      dromRead P draw msize a = P.dromByte (dromPhys P msize a) ∧
      dromPhys P msize a = mirror P (a.toNat % 2 ^ (20 + msize.toNat)) P.dromSize ∧
      dromPhys P msize a < P.dromSize) ∧
    (P.dromSize = 0 → dromRead P draw msize a = P.emptyDrom draw a.toNat) ∧
    (P.promSize ≠ 0 →
      promRead P draw offset = P.promByte (mirror P offset P.promSize) ∧ mirror P offset P.promSize < P.promSize) ∧
    (P.promSize = 0 → promRead P draw offset = P.emptyProm draw offset) ∧
    (P.mirrorRaw offset size < size → mirror P offset size = P.mirrorRaw offset size) ∧
    (ramCell P mmu a = some o → o < P.ramSize) ∧
    (∀ a' : Addr24, a'.toNat % 2 ^ (20 + msize.toNat) = a.toNat % 2 ^ (20 + msize.toNat) →
      dromPhys P msize a' = dromPhys P msize a) ∧
    dromPhys P 0 (bankedAddr bk a) = dromPhys P 0 (bankedAddr bk' a)

/-- The default `mirror` that the spec gives from general knowledge (R109's passage G6, log 15) has the law
`mirror(o, size) < size`, leaves an offset inside the store alone, and for a power-of-two size is the remainder. -/
def Obligations.DefaultMirrorHasTheLaw : Prop :=
  ∀ addr size : Nat, addr < 2 ^ 24 → 0 < size →
    defaultMirror addr size < size ∧
    (addr < size → defaultMirror addr size = addr) ∧
    (∀ k, size = 2 ^ k → defaultMirror addr size = addr % size)

/-! The real-time clock (45_rtc.md) -/

/-- R371, R372: the enable register, enabled or not; disabling returns the protocol to Idle and changes nothing else. With
no RTC on the cartridge it reads 0x00 and ignores writes (R370). -/
def Obligations.RtcEnableRegister : Prop :=
  ∀ (b d : Byte) (s : State),
    let r := s.chip.rtc
    exec (.rdRtcen b) s =
      .next { s with ret := some (if Config.params.hasRtc = true ∧ r.en = true then 0x01 else 0x00) } ∧
    exec (.wrRtcen b d) s = .next { s with
      chip.rtc :=
        if Config.params.hasRtc = true then
          if d.getLsbD 0 = true then { r with en := true } else { r with en := false, state := .idle }
        else r
      ret := none }

/-- R376 to R380: the command protocol on a written nibble, in each of its four states; inert while disabled, and with no
RTC on the cartridge (R370). `writePrep` stands for the code the spec takes from general knowledge (G5). -/
def Obligations.RtcProtocolWrites : Prop :=
  ∀ (b d : Byte) (s : State),
    let r := s.chip.rtc
    let v : Nibble := d.extractLsb' 0 4
    exec (.wrRtcdata b d) s = .next { s with
      chip.rtc :=
        if Config.params.hasRtc = true ∧ r.en = true then
          match r.state with
          | .idle => { r with cmd := v, state := .cmdRcvd }
          | .cmdRcvd =>
            { r with
              cur := v
              state := if r.cmd = 0xC then .readMode else if r.cmd = writePrep then .writeMode else .idle }
          | .readMode => r
          | .writeMode => { nibWrite r r.cur v with cur := BitVec.ofNat 4 (r.cur.toNat + 1) }
        else r
      ret := none }

/-- R381, R382: a data read in read mode returns the nibble at the cursor, advances the cursor modulo 16, sets the busy
flag and loads its timer; any other returns 0x00 and changes nothing, as with no RTC on the cartridge (R370). -/
def Obligations.RtcDataReads : Prop :=
  ∀ (b : Byte) (s : State),
    let r := s.chip.rtc
    exec (.rdRtcdata b) s =
      .next (if Config.params.hasRtc = true ∧ r.en = true ∧ r.state = .readMode then
        { s with
          chip.rtc.cur := BitVec.ofNat 4 (r.cur.toNat + 1)
          chip.rtc.busy := true
          chip.rtc.waitT := Config.params.rtcLatencyPred + 1
          ret := some (0#4 ++ nibRead r r.cur) }
      else { s with ret := some 0x00 })

/-- R384: the status read returns busy at bit 7 and the interrupt flags at bits 4:0 and clears the flags; while disabled
it returns 0x00 and clears nothing, as with no RTC on the cartridge (R370). -/
def Obligations.RtcStatusReads : Prop :=
  ∀ (b : Byte) (s : State),
    let r := s.chip.rtc
    exec (.rdRtcstat b) s =
      .next (if Config.params.hasRtc = true ∧ r.en = true then
        { s with chip.rtc.irq := 0, ret := some ((BitVec.ofBool r.busy ++ 0#2) ++ r.irq) }
      else { s with ret := some 0x00 })

/-- R373, R374: the sixteen nibble addresses. Address n from 0 to 12 reads cell n, address 13 the lost-power flag at bit 0,
14 and 15 read 0. A written cell reads back, address 13 keeps bit 0, 14 and 15 hold nothing; a write leaves every
other address and the rest of the RTC alone. -/
def Obligations.NibbleWriteThenRead : Prop :=
  ∀ (r : Rtc) (n k v : Nibble),
    (∀ h : n.toNat < 13, nibRead r n = r.nib[n.toNat]) ∧
    nibRead r 13 = 0#3 ++ BitVec.ofBool r.lost ∧
    (n.toNat ≤ 12 → nibRead (nibWrite r n v) n = v) ∧
    (n = 13 → nibRead (nibWrite r n v) n = 0#3 ++ v.extractLsb' 0 1) ∧
    (14 ≤ n.toNat → nibRead r n = 0 ∧ nibWrite r n v = r) ∧
    (k ≠ n → nibRead (nibWrite r n v) k = nibRead r k) ∧
    nibWrite r n v = { r with nib := (nibWrite r n v).nib, lost := (nibWrite r n v).lost }

/-- A whole session on an enabled RTC in Idle: nibbles written in write mode from an address are read back, in order, in
read mode from that address. Rests on the write-prepare code 0x3, which the spec takes from general knowledge (G5). -/
def Obligations.StoredNibblesReadBack : Prop :=
  ∀ (r : Rtc) (start : Nibble) (vs : List Nibble) (latency : Nat),
    r.en = true → r.state = .idle → start.toNat + vs.length ≤ 13 →
    let writing := writeRtcData (0#4 ++ start) (writeRtcData 0x03 r)
    let written := vs.foldl (fun u v => writeRtcData (0#4 ++ v) u) writing
    let reenabled := writeRtcEn 0x01 (writeRtcEn 0x00 written)
    let reading := writeRtcData (0#4 ++ start) (writeRtcData 0x0C reenabled)
    ∀ (j : Nat) (h : j < vs.length),
      rtcDataByte ((afterRtcDataRead latency)^[j] reading) = 0#4 ++ vs[j]

/-- R385 and R374: the lost-power flag and the date/time cells change only by a write of RTCDATA in write mode, the flag
only at address 13 and the cells only at 0 to 12. -/
def Obligations.ClockMemoryChangesOnlyInWriteMode : Prop :=
  ∀ (i : Instr) (s t : State), exec i s = .next t →
    ((∀ b d : Byte, i ≠ .wrRtcdata b d) ∨ s.chip.rtc.en = false ∨ s.chip.rtc.state ≠ .writeMode →
      t.chip.rtc.lost = s.chip.rtc.lost ∧ t.chip.rtc.nib = s.chip.rtc.nib) ∧
    (s.chip.rtc.cur ≠ 13 → t.chip.rtc.lost = s.chip.rtc.lost) ∧
    (12 < s.chip.rtc.cur.toNat → t.chip.rtc.nib = s.chip.rtc.nib)

/-- The spec's inference R386: the protocol's state changes by no event but a write of RTCDATA or RTCEN, and read mode and
write mode are left by no event but a write of RTCEN with bit 0 clear, which leads to Idle. -/
def Obligations.DataModesAreLeftOnlyByDisabling : Prop :=
  ∀ (i : Instr) (s t : State), exec i s = .next t →
    ((∀ b d : Byte, i ≠ .wrRtcdata b d) → (∀ b d : Byte, d.getLsbD 0 = false → i ≠ .wrRtcen b d) →
      t.chip.rtc.state = s.chip.rtc.state) ∧
    (s.chip.rtc.state = .readMode ∨ s.chip.rtc.state = .writeMode →
      t.chip.rtc.state = s.chip.rtc.state ∨
        (t.chip.rtc.state = .idle ∧ ∃ b d : Byte, d.getLsbD 0 = false ∧ i = .wrRtcen b d)) ∧
    (s.chip.rtc.state = .idle → t.chip.rtc.state = .idle ∨ t.chip.rtc.state = .cmdRcvd)

/-! The clock loop (46_clock_loop.md) -/

/-- R410 to R413, R415: what one TICK leaves, the RTC counter's own effects aside. -/
def Obligations.TickEffects : Prop :=
  ∀ s : State,
    let m := s.chip.math
    let r := s.chip.rtc
    ∃ t : State, exec .tick s = .next t ∧
      t = { s with
        chip.math.mulWait := m.mulWait - 1
        chip.math.divWait := m.divWait - 1
        chip.math.mres := if m.divWait = 1 then m.divPendQ else if m.mulWait = 1 then m.mulPend else m.mres
        chip.math.mrem := if m.divWait = 1 then m.divPendR else m.mrem
        chip.rtc.waitT := r.waitT - 1
        chip.rtc.busy := if r.waitT = 1 then false else r.busy
        chip.rtc.cnt := if Config.params.hasRtc = true then BitVec.ofNat 16 (r.cnt.toNat + 1) else r.cnt
        chip.rtc.sec := t.chip.rtc.sec
        chip.rtc.irq := t.chip.rtc.irq
        chip.cycles := s.chip.cycles + 1
        ret := none } ∧
      t.chip.rtc.sec = (rtcCounterStep Config.params.hasRtc r).sec ∧
      t.chip.rtc.irq = (rtcCounterStep Config.params.hasRtc r).irq

/-- R414: the RTC counter's step, flag by flag; nothing else of the RTC changes, and nothing at all when the cartridge has
no RTC. -/
def Obligations.RtcCounterStepEvents : Prop :=
  ∀ r : Rtc,
    let cnt := (r.cnt.toNat + 1) % 2 ^ 16
    let u := rtcCounterStep true r
    rtcCounterStep false r = r ∧
    u = { r with cnt := u.cnt, sec := u.sec, irq := u.irq } ∧
    u.cnt.toNat = cnt ∧
    u.sec = (if cnt = 0 then (if r.sec + 1 = 1440 then 0 else r.sec + 1) else r.sec) ∧
    (u.irq.getLsbD 0 = true ↔ r.irq.getLsbD 0 = true ∨ cnt % 0x8000 = 0) ∧
    (u.irq.getLsbD 1 = true ↔ r.irq.getLsbD 1 = true ∨ cnt = 0) ∧
    (u.irq.getLsbD 2 = true ↔ r.irq.getLsbD 2 = true ∨ cnt = 0) ∧
    (u.irq.getLsbD 3 = true ↔ r.irq.getLsbD 3 = true ∨ (cnt = 0 ∧ (r.sec + 1) % 60 = 0)) ∧
    (u.irq.getLsbD 4 = true ↔ r.irq.getLsbD 4 = true ∨ (cnt = 0 ∧ r.sec + 1 = 1440))

/-- R414's "sticky flags": no event but a status read clears an interrupt flag, and no event but a TICK sets one. -/
def Obligations.InterruptFlagsStaySetUntilRead : Prop :=
  ∀ (i : Instr) (s t : State), exec i s = .next t →
    ((∀ b : Byte, i ≠ .rdRtcstat b) → ∀ k : Nat,
      s.chip.rtc.irq.getLsbD k = true → t.chip.rtc.irq.getLsbD k = true) ∧
    (i ≠ .tick → ∀ k : Nat, t.chip.rtc.irq.getLsbD k = true → s.chip.rtc.irq.getLsbD k = true)

/-- The source's timing properties (95_test_vectors.md S3) for every n: from a counter, an accumulator and flags of 0, n
TICKs with no read of the flags set the duty flag from 2^15 on, the 1/64-second and second flags from 2^16 on, the minute
flag from 60 seconds on and the hour flag from 1440 on, and leave the counter and the accumulator at the remainders. -/
def Obligations.RtcEventsAfterTicks : Prop :=
  ∀ (n : Nat) (c : Chip), c.rtc.cnt = 0 → c.rtc.sec = 0 → c.rtc.irq = 0 →
    let r := (advance true n c).rtc
    r.cnt.toNat = n % 2 ^ 16 ∧ r.sec = n / 2 ^ 16 % 1440 ∧
    (r.irq.getLsbD 0 = true ↔ 2 ^ 15 ≤ n) ∧
    (r.irq.getLsbD 1 = true ↔ 2 ^ 16 ≤ n) ∧
    (r.irq.getLsbD 2 = true ↔ 2 ^ 16 ≤ n) ∧
    (r.irq.getLsbD 3 = true ↔ 60 * 2 ^ 16 ≤ n) ∧
    (r.irq.getLsbD 4 = true ↔ 1440 * 2 ^ 16 ≤ n)

/-- R417: a run of n queued TICKs is `advance(n)`, and `advance(0)` changes nothing. -/
def Obligations.RunOfTicksIsAdvance : Prop :=
  ∀ (n : Nat) (m : Byte) (s : State) (rest : List Input),
    s.inbox = List.replicate n (.event 0x4000000000#40 m) ++ rest →
    advance Config.params.hasRtc 0 s.chip = s.chip ∧
    ∃ t : State, Host.Core.run Sys2Proof.core n s = .next t ∧
      t.chip = advance Config.params.hasRtc n s.chip ∧ t.chip.cycles = s.chip.cycles + n ∧
      t.inbox = rest ∧ t.draw = s.draw + n

/-- R413 for n TICKs: the busy flag clears exactly when its timer ends, and the protocol and the clock memory are as they
were. -/
def Obligations.RtcBusyAfterTicks : Prop :=
  ∀ (hasRtc : Bool) (n : Nat) (c : Chip),
    let r := (advance hasRtc n c).rtc
    r.waitT = c.rtc.waitT - n ∧
    (r.busy = true ↔ c.rtc.busy = true ∧ ¬ (0 < c.rtc.waitT ∧ c.rtc.waitT ≤ n)) ∧
    r.en = c.rtc.en ∧ r.nib = c.rtc.nib ∧ r.lost = c.rtc.lost ∧ r.state = c.rtc.state ∧
    r.cmd = c.rtc.cmd ∧ r.cur = c.rtc.cur

/-! Reset, power-on and the snapshot (70_reset_and_hazards.md, 10_state.md) -/

/-- R69, R470, R472: a reset sets every element to the table's value and keeps the battery-backed cells and the SRAM; right
after power-on the values are the same, the cells from `P_RTC_IMAGE` (R471) and every byte of SRAM the launch's; the status
then reads 0x40 (R53). -/
def Obligations.ResetTable : Prop :=
  let table : Vector Nibble 13 → Bool → Memory → Chip := fun nib lost ram =>
    { dec := { dtbl := 0, didx := 0, daux := #v[0, 0, 0, 0, 0], dlen := 0, dstat := 0, dlast := none }
      port := { curA := 0, visA := 0, curB := 0, visB := 0, incB := 0, latLo := false, latHi := false, pmode := 0 }
      math :=
        { mulWait := 0, divWait := 0, mopA := 0, maux := 0, mopM := 0, mopD := 0, mres := 0, mrem := 0,
          msign := false, mulPend := 0, divPendQ := 0, divPendR := 0 }
      mmu := { bank := #v[0, 0, 0, 0], ramEn := false, msize := 0, mfast1 := false }
      ram := ram
      rtc :=
        { en := false, nib := nib, lost := lost, state := .idle, cmd := 0, cur := 0, busy := false, waitT := 0,
          cnt := 0, sec := 0, irq := 0 }
      cycles := 0 }
  (∀ (s : State) (rest : List Input), s.inbox = .reset :: rest →
    step s = .next { s with
      chip := table s.chip.rtc.nib s.chip.rtc.lost s.chip.ram, inbox := rest, ret := none }) ∧
  State.reset.chip = table (powerOnNib Config.params.rtcImage) (powerOnLost Config.params.rtcImage) [] ∧
  (∀ a : Nat, Memory.read Config.params.ramInit State.reset.chip.ram a = Config.params.ramInit a) ∧
  (∀ b : Byte, exec (.rdMstat b) State.reset = .next { State.reset with ret := some 0x40 })

/-- R471, R473: a power-on with a valid image loads the cells and the flag from it; with an invalid image, or none, it is
a cold start: the cells 0 and the lost-power flag set. The SRAM is the launch's, and the rest is as after a reset. The
machine's reset state is such a power-on. -/
def Obligations.PowerOnLoadsTheImage : Prop :=
  State.reset.chip = Chip.powerOn Config.params.rtcImage ∧
  (∀ img : Option (List Byte),
    (∀ a : Nat, Memory.read Config.params.ramInit (Chip.powerOn img).ram a = Config.params.ramInit a) ∧
    Chip.powerOn img = (Chip.powerOn img).warmReset) ∧
  (∀ n : Fin 13, (Chip.powerOn none).rtc.nib[n] = 0) ∧ (Chip.powerOn none).rtc.lost = true ∧
  ∀ img : List Byte,
    let valid : Prop := img.length = 14 ∧ (∀ n < 13, (img.getD n 0).toNat < 16) ∧ (img.getD 13 0).toNat ≤ 1
    (valid → (∀ n : Fin 13, (Chip.powerOn (some img)).rtc.nib[n].toNat = (img.getD n 0).toNat) ∧
      ((Chip.powerOn (some img)).rtc.lost = true ↔ img.getD 13 0 = 0x01)) ∧
    (¬ valid → (∀ n : Fin 13, (Chip.powerOn (some img)).rtc.nib[n] = 0) ∧ (Chip.powerOn (some img)).rtc.lost = true)

/-- R473: the image the host takes of the RTC memory, byte by byte; a power-on with it restores the cells and the flag. -/
def Obligations.PersistedImageRestoresTheClock : Prop :=
  ∀ r : Rtc, (rtcImageOf r).length = 14 ∧
    (∀ n : Fin 13, (rtcImageOf r)[n.val]? = some (0#4 ++ r.nib[n])) ∧
    (rtcImageOf r)[13]? = some (if r.lost = true then 0x01 else 0x00) ∧
    (Chip.powerOn (some (rtcImageOf r))).rtc.nib = r.nib ∧ (Chip.powerOn (some (rtcImageOf r))).rtc.lost = r.lost

/-- Every step keeps a legal state legal: the reserved bits of the status byte, the timers under their latencies, the busy
flag with its timer, the accumulator under 1440, Idle while disabled, an absent RTC inert, and the SRAM list canonical and
inside the SRAM. -/
def Obligations.StepKeepsTheStateLegal : Prop :=
  ∀ s t : State, s.Legal → step s = .next t → t.Legal

/-- The state after reset is legal. -/
def Obligations.ResetStateIsLegal : Prop := State.reset.Legal

/-- R68, R474: a machine that restores a snapshot behaves from then on as the machine the snapshot was taken of, for any
number of steps: the same core, the same inputs left, the same returned byte, and the same refusal if one comes. Both
machines are at the same event number, the model's index of the free values (log 9). -/
def Obligations.RestoredSnapshotBehavesTheSame : Prop :=
  ∀ (n : Nat) (s u : State), u.inbox = .restore s.chip :: s.inbox → u.draw = s.draw →
    (∀ t : State, Host.Core.run Sys2Proof.core n s = .next t →
      ∃ v : State, Host.Core.run Sys2Proof.core (n + 1) u = .next v ∧
        v.chip = t.chip ∧ v.inbox = t.inbox ∧ v.draw = t.draw ∧ (n ≠ 0 → s.inbox ≠ [] → v.ret = t.ret)) ∧
    (∀ why : Refusal, Host.Core.run Sys2Proof.core n s = .refused why →
      Host.Core.run Sys2Proof.core (n + 1) u = .refused why)
end

