-- ==== Sys2Proof/Laws/Encoding.lean ====
section
/-! SUPPORT. The fields of an event word written from fields (30_encoding.md R140): what the decoder reads back from
`eventWord`, `rdWord` and `wrWord`, and what it answers on them. -/

namespace Sys2Proof

theorem toNat_append_eq {m n : Nat} (x : BitVec m) (y : BitVec n) :
    (x ++ y).toNat = x.toNat * 2 ^ n + y.toNat := by
  rw [BitVec.toNat_append, ← Nat.shiftLeft_add_eq_or_of_lt y.isLt, Nat.shiftLeft_eq]

theorem eventWord_toNat (cls : BitVec 3) (a : Addr24) (d : Byte) :
    (eventWord cls a d).toNat = cls.toNat * 2 ^ 37 + a.toNat * 2 ^ 8 + d.toNat := by
  have h1 := toNat_append_eq a d
  have h2 := toNat_append_eq 0#5 (a ++ d)
  have h3 := toNat_append_eq cls (0#5 ++ (a ++ d))
  have h0 : (0#5).toNat = 0 := rfl
  refine Eq.trans h3 ?_
  omega

theorem toNat_field (w : EventWord) (start len : Nat) :
    (w.extractLsb' start len).toNat = w.toNat / 2 ^ start % 2 ^ len := by
  rw [BitVec.extractLsb'_toNat, Nat.shiftRight_eq_div_pow]

@[simp] theorem clsField_eventWord (cls : BitVec 3) (a : Addr24) (d : Byte) :
    clsField (eventWord cls a d) = cls := by
  apply BitVec.eq_of_toNat_eq
  rw [clsField, toNat_field, eventWord_toNat]
  omega

@[simp] theorem zField_eventWord (cls : BitVec 3) (a : Addr24) (d : Byte) :
    zField (eventWord cls a d) = 0 := by
  apply BitVec.eq_of_toNat_eq
  rw [zField, toNat_field, eventWord_toNat]
  show _ = 0
  omega

@[simp] theorem addrField_eventWord (cls : BitVec 3) (a : Addr24) (d : Byte) :
    addrField (eventWord cls a d) = a := by
  apply BitVec.eq_of_toNat_eq
  rw [addrField, toNat_field, eventWord_toNat]
  omega

@[simp] theorem dataField_eventWord (cls : BitVec 3) (a : Addr24) (d : Byte) :
    dataField (eventWord cls a d) = d := by
  apply BitVec.eq_of_toNat_eq
  rw [dataField, toNat_field, eventWord_toNat]
  omega

@[simp] theorem bankField_eventWord (cls : BitVec 3) (b : Byte) (a : Addr16) (d : Byte) :
    bankField (eventWord cls (b ++ a) d) = b := by
  apply BitVec.eq_of_toNat_eq
  rw [bankField, toNat_field, eventWord_toNat, toNat_append_eq]
  omega

@[simp] theorem a16Field_eventWord (cls : BitVec 3) (b : Byte) (a : Addr16) (d : Byte) :
    a16Field (eventWord cls (b ++ a) d) = a := by
  apply BitVec.eq_of_toNat_eq
  rw [a16Field, toNat_field, eventWord_toNat, toNat_append_eq]
  omega

/-- The address field is its two parts. -/
theorem addrField_eq (w : EventWord) : addrField w = bankField w ++ a16Field w := by
  apply BitVec.eq_of_toNat_eq
  rw [addrField, bankField, a16Field, toNat_append_eq, toNat_field, toNat_field, toNat_field]
  omega

/-- A word whose zero bits are 0 is its three other fields. -/
theorem eventWord_fields (w : EventWord) (h : zField w = 0) :
    eventWord (clsField w) (addrField w) (dataField w) = w := by
  have hz : (zField w).toNat = 0 := congrArg BitVec.toNat h
  have hw := w.isLt
  apply BitVec.eq_of_toNat_eq
  rw [zField, toNat_field] at hz
  rw [eventWord_toNat, clsField, addrField, dataField, toNat_field, toNat_field, toNat_field]
  omega

/-- Reading the word of a read. -/
theorem decode_rdWord (b : Byte) (a : Addr16) :
    decode (rdWord b a) =
      .ok (match mmioRow a with | some r => r.rd b | none => .rdOutOfRange (b ++ a)) := by
  simp only [decode, rdWord, zField_eventWord, if_true, clsField_eventWord, requireNoData, dataField_eventWord,
    decodeRead, a16Field_eventWord, bankField_eventWord, addrField_eventWord]
  rfl

/-- Reading the word of a write. -/
theorem decode_wrWord (b d : Byte) (a : Addr16) :
    decode (wrWord b d a) =
      .ok (match mmioRow a with | some r => r.wr b d | none => .wrOutOfRange (b ++ a) d) := by
  simp only [decode, wrWord, zField_eventWord, if_true, clsField_eventWord, dataField_eventWord,
    decodeWrite, a16Field_eventWord, bankField_eventWord, addrField_eventWord]
  rfl

end Sys2Proof
end

