-- ==== Sys2Proof/Laws/Memory.lean ====
section
/-! SUPPORT. The laws of the SRAM list: a read after a write, the other addresses, and the canonical form that every
operation keeps. -/

namespace Sys2Proof.Machine

variable {init : Nat → Byte}

/-- A listed address is at least the bound. -/
theorem Memory.le_of_mem {lo : Nat} {m : Memory} (h : Memory.wfFrom init lo m = true) :
    ∀ c ∈ m, lo ≤ c.1 := by
  induction m generalizing lo with
  | nil => simp
  | cons x rest ih =>
    obtain ⟨b, v⟩ := x
    simp only [Memory.wfFrom, Bool.and_eq_true, decide_eq_true_eq] at h
    intro c hc
    rcases List.mem_cons.1 hc with rfl | hc
    · exact h.1.1
    · have := ih h.2 c hc
      omega

/-- An address below the bound is not listed, so it reads as the launch's contents. -/
theorem Memory.read_below {lo a : Nat} {m : Memory} (h : Memory.wfFrom init lo m = true) (ha : a < lo) :
    Memory.read init m a = init a := by
  induction m generalizing lo with
  | nil => rfl
  | cons x rest ih =>
    obtain ⟨b, v⟩ := x
    simp only [Memory.wfFrom, Bool.and_eq_true, decide_eq_true_eq] at h
    have hb : a ≠ b := by omega
    simp only [Memory.read, hb, if_false]
    exact ih h.2 (by omega)

theorem Memory.wfFrom_mono {lo lo' : Nat} {m : Memory} (h : Memory.wfFrom init lo m = true) (hl : lo' ≤ lo) :
    Memory.wfFrom init lo' m = true := by
  cases m with
  | nil => rfl
  | cons x rest =>
    obtain ⟨b, v⟩ := x
    simp only [Memory.wfFrom, Bool.and_eq_true, decide_eq_true_eq] at h ⊢
    exact ⟨⟨by omega, h.1.2⟩, h.2⟩

theorem Memory.wfFrom_erase {lo : Nat} {m : Memory} (a : Nat) (h : Memory.wfFrom init lo m = true) :
    Memory.wfFrom init lo (Memory.erase m a) = true := by
  induction m generalizing lo with
  | nil => rfl
  | cons x rest ih =>
    obtain ⟨b, v⟩ := x
    have h' := h
    simp only [Memory.wfFrom, Bool.and_eq_true, decide_eq_true_eq] at h'
    by_cases hab : a = b
    · simp only [Memory.erase, hab, if_true]
      exact Memory.wfFrom_mono h'.2 (by omega)
    · simp only [Memory.erase, hab, if_false, Memory.wfFrom, Bool.and_eq_true, decide_eq_true_eq]
      exact ⟨h'.1, ih h'.2⟩

theorem Memory.wfFrom_insert {lo : Nat} {m : Memory} {a : Nat} {v : Byte} (h : Memory.wfFrom init lo m = true)
    (hlo : lo ≤ a) (hv : v ≠ init a) : Memory.wfFrom init lo (Memory.insert m a v) = true := by
  induction m generalizing lo with
  | nil => simp [Memory.insert, Memory.wfFrom, hlo, hv]
  | cons x rest ih =>
    obtain ⟨b, w⟩ := x
    simp only [Memory.wfFrom, Bool.and_eq_true, decide_eq_true_eq] at h
    by_cases h1 : a < b
    · simp only [Memory.insert, h1, if_true, Memory.wfFrom, Bool.and_eq_true, decide_eq_true_eq, bne_iff_ne]
      exact ⟨⟨hlo, hv⟩, ⟨by omega, by simpa using h.1.2⟩, h.2⟩
    · by_cases h2 : a = b
      · subst h2
        simp only [Memory.insert, lt_irrefl, if_false, if_true, Memory.wfFrom, Bool.and_eq_true, decide_eq_true_eq,
          bne_iff_ne]
        exact ⟨⟨hlo, hv⟩, h.2⟩
      · simp only [Memory.insert, h1, h2, if_false, Memory.wfFrom, Bool.and_eq_true, decide_eq_true_eq]
        exact ⟨h.1, ih h.2 (by omega)⟩

/-- Every write keeps the canonical form. -/
theorem Memory.wf_write {m : Memory} (a : Nat) (v : Byte) (h : Memory.wf init m = true) :
    Memory.wf init (Memory.write init m a v) = true := by
  unfold Memory.write
  split
  · exact Memory.wfFrom_erase a h
  · rename_i hv
    exact Memory.wfFrom_insert h (Nat.zero_le _) hv

/-- The empty list is in canonical form. -/
@[simp] theorem Memory.wf_nil : Memory.wf init [] = true := rfl

theorem Memory.read_erase_same {lo : Nat} {m : Memory} (a : Nat) (h : Memory.wfFrom init lo m = true) :
    Memory.read init (Memory.erase m a) a = init a := by
  induction m generalizing lo with
  | nil => rfl
  | cons x rest ih =>
    obtain ⟨b, v⟩ := x
    simp only [Memory.wfFrom, Bool.and_eq_true, decide_eq_true_eq] at h
    by_cases hab : a = b
    · simp only [Memory.erase, hab, if_true]
      exact Memory.read_below h.2 (by omega)
    · simp only [Memory.erase, hab, if_false, Memory.read]
      exact ih h.2

theorem Memory.read_erase_other (m : Memory) {a b : Nat} (h : b ≠ a) :
    Memory.read init (Memory.erase m a) b = Memory.read init m b := by
  induction m with
  | nil => rfl
  | cons x rest ih =>
    obtain ⟨c, v⟩ := x
    by_cases hac : a = c
    · subst hac
      simp [Memory.erase, Memory.read, h]
    · simp only [Memory.erase, hac, if_false, Memory.read, ih]

theorem Memory.read_insert_same (m : Memory) (a : Nat) (v : Byte) :
    Memory.read init (Memory.insert m a v) a = v := by
  induction m with
  | nil => simp [Memory.insert, Memory.read]
  | cons x rest ih =>
    obtain ⟨b, w⟩ := x
    by_cases h1 : a < b
    · simp [Memory.insert, h1, Memory.read]
    · by_cases h2 : a = b
      · simp [Memory.insert, h2, Memory.read]
      · simp only [Memory.insert, h1, h2, if_false, Memory.read, ih]

theorem Memory.read_insert_other (m : Memory) {a b : Nat} (v : Byte) (h : b ≠ a) :
    Memory.read init (Memory.insert m a v) b = Memory.read init m b := by
  induction m with
  | nil => simp [Memory.insert, Memory.read, h]
  | cons x rest ih =>
    obtain ⟨c, w⟩ := x
    by_cases h1 : a < c
    · simp [Memory.insert, h1, Memory.read, h]
    · by_cases h2 : a = c
      · subst h2
        simp [Memory.insert, Memory.read, h]
      · simp only [Memory.insert, h1, h2, if_false, Memory.read, ih]

/-- A read after a write of the same address gives the byte written. -/
theorem Memory.read_write_same {m : Memory} (a : Nat) (v : Byte) (h : Memory.wf init m = true) :
    Memory.read init (Memory.write init m a v) a = v := by
  unfold Memory.write
  split
  · rename_i hv
    rw [hv]
    exact Memory.read_erase_same a h
  · exact Memory.read_insert_same m a v

/-- A write leaves every other address alone. -/
theorem Memory.read_write_other (m : Memory) {a b : Nat} (v : Byte) (h : b ≠ a) :
    Memory.read init (Memory.write init m a v) b = Memory.read init m b := by
  unfold Memory.write
  split
  · exact Memory.read_erase_other m h
  · exact Memory.read_insert_other m v h

/-- A write lists no address but its own. -/
theorem Memory.mem_write {m : Memory} {a : Nat} {v : Byte} {c : Host.Cell} (h : c ∈ Memory.write init m a v) :
    c ∈ m ∨ c = (a, v) := by
  unfold Memory.write at h
  split at h
  · left
    induction m with
    | nil => simp [Memory.erase] at h
    | cons x rest ih =>
      obtain ⟨b, w⟩ := x
      by_cases hab : a = b
      · simp only [Memory.erase, hab, if_true] at h
        exact List.mem_cons_of_mem _ h
      · simp only [Memory.erase, hab, if_false, List.mem_cons] at h
        rcases h with h | h
        · exact h ▸ List.mem_cons_self
        · exact List.mem_cons_of_mem _ (ih h)
  · induction m with
    | nil => simpa [Memory.insert] using h
    | cons x rest ih =>
      obtain ⟨b, w⟩ := x
      by_cases h1 : a < b
      · simp only [Memory.insert, h1, if_true, List.mem_cons] at h
        rcases h with h | h
        · exact Or.inr h
        · exact Or.inl (List.mem_cons.2 h)
      · by_cases h2 : a = b
        · simp only [Memory.insert, h2, lt_irrefl, if_false, if_true, List.mem_cons] at h
          rcases h with h | h
          · exact Or.inr (by rw [h2]; exact h)
          · exact Or.inl (List.mem_cons_of_mem _ h)
        · simp only [Memory.insert, h1, h2, if_false, List.mem_cons] at h
          rcases h with h | h
          · exact Or.inl (h ▸ List.mem_cons_self)
          · rcases ih h with h | h
            · exact Or.inl (List.mem_cons_of_mem _ h)
            · exact Or.inr h

end Sys2Proof.Machine
end

