-- ==== Sys2Proof/Laws/Operands.lean ====
section
/-! SUPPORT. What the byte lanes of a register do: a written lane reads back, the other lanes stay, and each register
width's lanes as slices. -/

namespace Sys2Proof.Machine

theorem getLsbD_lane {w : Nat} (k : Nat) (v : BitVec w) (i : Nat) :
    (lane k v).getLsbD i = (decide (i < 8) && v.getLsbD (8 * k + i)) :=
  BitVec.getLsbD_extractLsb' ..

theorem getLsbD_allOnesByte (j : Nat) : (0xFF#8).getLsbD j = decide (j < 8) := by
  by_cases h : j < 8
  · interval_cases j <;> rfl
  · simp [h, BitVec.getLsbD_of_ge (0xFF#8) j (by omega)]

theorem getLsbD_setLane {w : Nat} (k : Nat) (v : BitVec w) (d : Byte) (i : Nat) :
    (setLane k v d).getLsbD i =
      if 8 * k ≤ i ∧ i < 8 * k + 8 then decide (i < w) && d.getLsbD (i - 8 * k) else v.getLsbD i := by
  simp only [setLane, BitVec.getLsbD_or, BitVec.getLsbD_and, BitVec.getLsbD_not, BitVec.getLsbD_shiftLeft,
    BitVec.getLsbD_setWidth, getLsbD_allOnesByte]
  by_cases hw : i < w
  · by_cases h1 : i < 8 * k
    · have h5 : ¬ 8 * k ≤ i := by omega
      simp [hw, h1, h5]
    · have h5 : 8 * k ≤ i := by omega
      by_cases h2 : i < 8 * k + 8
      · have h3 : i - 8 * k < 8 := by omega
        have h4 : i - 8 * k < w := by omega
        simp [hw, h1, h2, h3, h4, h5]
      · have h3 : ¬ i - 8 * k < 8 := by omega
        simp [hw, h1, h2, h3, BitVec.getLsbD_of_ge d (i - 8 * k) (by omega)]
  · simp [hw, BitVec.getLsbD_of_ge v i (by omega)]

/-- A written lane reads back, if the register has it. -/
theorem lane_setLane_same {w : Nat} (k : Nat) (v : BitVec w) (d : Byte) (h : 8 * k + 8 ≤ w) :
    lane k (setLane k v d) = d := by
  apply BitVec.eq_of_getLsbD_eq
  intro i hi
  have h1 : 8 * k + i < w := by omega
  have h2 : 8 * k ≤ 8 * k + i ∧ 8 * k + i < 8 * k + 8 := by omega
  have h3 : 8 * k + i - 8 * k = i := by omega
  rw [getLsbD_lane, getLsbD_setLane, if_pos h2, h3]
  simp only [hi, h1, decide_true, Bool.true_and]

/-- A write of one lane leaves another alone. -/
theorem lane_setLane_other {w : Nat} (j k : Nat) (v : BitVec w) (d : Byte) (h : j ≠ k) :
    lane j (setLane k v d) = lane j v := by
  apply BitVec.eq_of_getLsbD_eq
  intro i hi
  have h1 : ¬ (8 * k ≤ 8 * j + i ∧ 8 * j + i < 8 * k + 8) := by omega
  rw [getLsbD_lane, getLsbD_lane, getLsbD_setLane, if_neg h1]

/-- The low lane of a 16-bit register. -/
theorem setLane_low16 (v : BitVec 16) (d : Byte) : setLane 0 v d = v.extractLsb' 8 8 ++ d := by
  apply BitVec.eq_of_getLsbD_eq
  intro i hi
  refine Eq.trans (getLsbD_setLane _ _ _ _) (Eq.trans ?_ BitVec.getLsbD_append.symm)
  simp only [BitVec.getLsbD_extractLsb', hi, decide_true, Bool.true_and]
  split_ifs <;> first
    | rfl
    | (exfalso; omega)
    | (rw [decide_eq_true (by omega), Bool.true_and]; congr 1; omega)

/-- The high lane of a 16-bit register. -/
theorem setLane_high16 (v : BitVec 16) (d : Byte) : setLane 1 v d = d ++ v.extractLsb' 0 8 := by
  apply BitVec.eq_of_getLsbD_eq
  intro i hi
  refine Eq.trans (getLsbD_setLane _ _ _ _) (Eq.trans ?_ BitVec.getLsbD_append.symm)
  simp only [BitVec.getLsbD_extractLsb', hi, decide_true, Bool.true_and, and_true]
  split_ifs <;> first
    | rfl
    | (exfalso; omega)
    | (rw [decide_eq_true (by omega), Bool.true_and]; congr 1; omega)

/-- The low lane of a 24-bit register. -/
theorem setLane_low24 (v : BitVec 24) (d : Byte) : setLane 0 v d = v.extractLsb' 8 16 ++ d := by
  apply BitVec.eq_of_getLsbD_eq
  intro i hi
  refine Eq.trans (getLsbD_setLane _ _ _ _) (Eq.trans ?_ BitVec.getLsbD_append.symm)
  simp only [BitVec.getLsbD_extractLsb', hi, decide_true, Bool.true_and]
  split_ifs <;> first
    | rfl
    | (exfalso; omega)
    | (rw [decide_eq_true (by omega), Bool.true_and]; congr 1; omega)

/-- The middle lane of a 24-bit register. -/
theorem setLane_mid24 (v : BitVec 24) (d : Byte) : setLane 1 v d = (v.extractLsb' 16 8 ++ d) ++ v.extractLsb' 0 8 := by
  apply BitVec.eq_of_getLsbD_eq
  intro i hi
  refine Eq.trans (getLsbD_setLane _ _ _ _) (Eq.trans ?_ BitVec.getLsbD_append.symm)
  simp only [BitVec.getLsbD_extractLsb', BitVec.getLsbD_append, hi, decide_true, Bool.true_and]
  split_ifs <;> first
    | rfl
    | (exfalso; omega)
    | (rw [decide_eq_true (by omega), Bool.true_and]; congr 1; omega)

/-- The high lane of a 24-bit register. -/
theorem setLane_high24 (v : BitVec 24) (d : Byte) : setLane 2 v d = d ++ v.extractLsb' 0 16 := by
  apply BitVec.eq_of_getLsbD_eq
  intro i hi
  refine Eq.trans (getLsbD_setLane _ _ _ _) (Eq.trans ?_ BitVec.getLsbD_append.symm)
  simp only [BitVec.getLsbD_extractLsb', hi, decide_true, Bool.true_and, and_true]
  split_ifs <;> first
    | rfl
    | (exfalso; omega)
    | (rw [decide_eq_true (by omega), Bool.true_and]; congr 1; omega)

end Sys2Proof.Machine
end

