-- ==== Sys2Proof/Laws/State.lean ====
section
/-! SUPPORT. One lemma per field per named update of the core and of the state, so that no later proof unfolds a record
update. -/

namespace Sys2Proof.Machine

@[simp] theorem Chip.setDec_dec (c : Chip) (u : Decomp) : (c.setDec u).dec = u := rfl
@[simp] theorem Chip.setDec_port (c : Chip) (u : Decomp) : (c.setDec u).port = c.port := rfl
@[simp] theorem Chip.setDec_math (c : Chip) (u : Decomp) : (c.setDec u).math = c.math := rfl
@[simp] theorem Chip.setDec_mmu (c : Chip) (u : Decomp) : (c.setDec u).mmu = c.mmu := rfl
@[simp] theorem Chip.setDec_ram (c : Chip) (u : Decomp) : (c.setDec u).ram = c.ram := rfl
@[simp] theorem Chip.setDec_rtc (c : Chip) (u : Decomp) : (c.setDec u).rtc = c.rtc := rfl
@[simp] theorem Chip.setDec_cycles (c : Chip) (u : Decomp) : (c.setDec u).cycles = c.cycles := rfl

@[simp] theorem Chip.setPort_dec (c : Chip) (u : DataPort) : (c.setPort u).dec = c.dec := rfl
@[simp] theorem Chip.setPort_port (c : Chip) (u : DataPort) : (c.setPort u).port = u := rfl
@[simp] theorem Chip.setPort_math (c : Chip) (u : DataPort) : (c.setPort u).math = c.math := rfl
@[simp] theorem Chip.setPort_mmu (c : Chip) (u : DataPort) : (c.setPort u).mmu = c.mmu := rfl
@[simp] theorem Chip.setPort_ram (c : Chip) (u : DataPort) : (c.setPort u).ram = c.ram := rfl
@[simp] theorem Chip.setPort_rtc (c : Chip) (u : DataPort) : (c.setPort u).rtc = c.rtc := rfl
@[simp] theorem Chip.setPort_cycles (c : Chip) (u : DataPort) : (c.setPort u).cycles = c.cycles := rfl

@[simp] theorem Chip.setMath_dec (c : Chip) (u : MathUnit) : (c.setMath u).dec = c.dec := rfl
@[simp] theorem Chip.setMath_port (c : Chip) (u : MathUnit) : (c.setMath u).port = c.port := rfl
@[simp] theorem Chip.setMath_math (c : Chip) (u : MathUnit) : (c.setMath u).math = u := rfl
@[simp] theorem Chip.setMath_mmu (c : Chip) (u : MathUnit) : (c.setMath u).mmu = c.mmu := rfl
@[simp] theorem Chip.setMath_ram (c : Chip) (u : MathUnit) : (c.setMath u).ram = c.ram := rfl
@[simp] theorem Chip.setMath_rtc (c : Chip) (u : MathUnit) : (c.setMath u).rtc = c.rtc := rfl
@[simp] theorem Chip.setMath_cycles (c : Chip) (u : MathUnit) : (c.setMath u).cycles = c.cycles := rfl

@[simp] theorem Chip.setMmu_dec (c : Chip) (u : Mmu) : (c.setMmu u).dec = c.dec := rfl
@[simp] theorem Chip.setMmu_port (c : Chip) (u : Mmu) : (c.setMmu u).port = c.port := rfl
@[simp] theorem Chip.setMmu_math (c : Chip) (u : Mmu) : (c.setMmu u).math = c.math := rfl
@[simp] theorem Chip.setMmu_mmu (c : Chip) (u : Mmu) : (c.setMmu u).mmu = u := rfl
@[simp] theorem Chip.setMmu_ram (c : Chip) (u : Mmu) : (c.setMmu u).ram = c.ram := rfl
@[simp] theorem Chip.setMmu_rtc (c : Chip) (u : Mmu) : (c.setMmu u).rtc = c.rtc := rfl
@[simp] theorem Chip.setMmu_cycles (c : Chip) (u : Mmu) : (c.setMmu u).cycles = c.cycles := rfl

@[simp] theorem Chip.setRam_dec (c : Chip) (u : Memory) : (c.setRam u).dec = c.dec := rfl
@[simp] theorem Chip.setRam_port (c : Chip) (u : Memory) : (c.setRam u).port = c.port := rfl
@[simp] theorem Chip.setRam_math (c : Chip) (u : Memory) : (c.setRam u).math = c.math := rfl
@[simp] theorem Chip.setRam_mmu (c : Chip) (u : Memory) : (c.setRam u).mmu = c.mmu := rfl
@[simp] theorem Chip.setRam_ram (c : Chip) (u : Memory) : (c.setRam u).ram = u := rfl
@[simp] theorem Chip.setRam_rtc (c : Chip) (u : Memory) : (c.setRam u).rtc = c.rtc := rfl
@[simp] theorem Chip.setRam_cycles (c : Chip) (u : Memory) : (c.setRam u).cycles = c.cycles := rfl

@[simp] theorem Chip.setRtc_dec (c : Chip) (u : Rtc) : (c.setRtc u).dec = c.dec := rfl
@[simp] theorem Chip.setRtc_port (c : Chip) (u : Rtc) : (c.setRtc u).port = c.port := rfl
@[simp] theorem Chip.setRtc_math (c : Chip) (u : Rtc) : (c.setRtc u).math = c.math := rfl
@[simp] theorem Chip.setRtc_mmu (c : Chip) (u : Rtc) : (c.setRtc u).mmu = c.mmu := rfl
@[simp] theorem Chip.setRtc_ram (c : Chip) (u : Rtc) : (c.setRtc u).ram = c.ram := rfl
@[simp] theorem Chip.setRtc_rtc (c : Chip) (u : Rtc) : (c.setRtc u).rtc = u := rfl
@[simp] theorem Chip.setRtc_cycles (c : Chip) (u : Rtc) : (c.setRtc u).cycles = c.cycles := rfl

@[simp] theorem Chip.setCycles_dec (c : Chip) (u : Nat) : (c.setCycles u).dec = c.dec := rfl
@[simp] theorem Chip.setCycles_port (c : Chip) (u : Nat) : (c.setCycles u).port = c.port := rfl
@[simp] theorem Chip.setCycles_math (c : Chip) (u : Nat) : (c.setCycles u).math = c.math := rfl
@[simp] theorem Chip.setCycles_mmu (c : Chip) (u : Nat) : (c.setCycles u).mmu = c.mmu := rfl
@[simp] theorem Chip.setCycles_ram (c : Chip) (u : Nat) : (c.setCycles u).ram = c.ram := rfl
@[simp] theorem Chip.setCycles_rtc (c : Chip) (u : Nat) : (c.setCycles u).rtc = c.rtc := rfl
@[simp] theorem Chip.setCycles_cycles (c : Chip) (u : Nat) : (c.setCycles u).cycles = u := rfl

@[simp] theorem State.takeEvent_chip (s : State) (rest : List Input) (m : Byte) : (s.takeEvent rest m).chip = s.chip := rfl
@[simp] theorem State.takeEvent_inbox (s : State) (rest : List Input) (m : Byte) : (s.takeEvent rest m).inbox = rest := rfl
@[simp] theorem State.takeEvent_mdr (s : State) (rest : List Input) (m : Byte) : (s.takeEvent rest m).mdr = m := rfl
@[simp] theorem State.takeEvent_draw (s : State) (rest : List Input) (m : Byte) : (s.takeEvent rest m).draw = s.draw + 1 := rfl
@[simp] theorem State.takeEvent_ret (s : State) (rest : List Input) (m : Byte) : (s.takeEvent rest m).ret = s.ret := rfl

@[simp] theorem State.takeReset_chip (s : State) (rest : List Input) : (s.takeReset rest).chip = s.chip.warmReset := rfl
@[simp] theorem State.takeReset_inbox (s : State) (rest : List Input) : (s.takeReset rest).inbox = rest := rfl
@[simp] theorem State.takeReset_mdr (s : State) (rest : List Input) : (s.takeReset rest).mdr = s.mdr := rfl
@[simp] theorem State.takeReset_draw (s : State) (rest : List Input) : (s.takeReset rest).draw = s.draw := rfl
@[simp] theorem State.takeReset_ret (s : State) (rest : List Input) : (s.takeReset rest).ret = none := rfl

@[simp] theorem State.takeRestore_chip (s : State) (rest : List Input) (c : Chip) : (s.takeRestore rest c).chip = c := rfl
@[simp] theorem State.takeRestore_inbox (s : State) (rest : List Input) (c : Chip) : (s.takeRestore rest c).inbox = rest := rfl
@[simp] theorem State.takeRestore_mdr (s : State) (rest : List Input) (c : Chip) : (s.takeRestore rest c).mdr = s.mdr := rfl
@[simp] theorem State.takeRestore_draw (s : State) (rest : List Input) (c : Chip) : (s.takeRestore rest c).draw = s.draw := rfl
@[simp] theorem State.takeRestore_ret (s : State) (rest : List Input) (c : Chip) : (s.takeRestore rest c).ret = none := rfl

@[simp] theorem State.pause_eq (s : State) : s.pause = s := rfl

@[simp] theorem Chip.warmReset_ram (c : Chip) : c.warmReset.ram = c.ram := rfl
@[simp] theorem Chip.warmReset_nib (c : Chip) : c.warmReset.rtc.nib = c.rtc.nib := rfl
@[simp] theorem Chip.warmReset_lost (c : Chip) : c.warmReset.rtc.lost = c.rtc.lost := rfl

/-! What an event answers: always a next state. -/

theorem State.deliver_eq (s : State) (v : Byte) (c : Chip) :
    s.deliver v c = .next { s with chip := c, ret := some v } := rfl
theorem State.accept_eq (s : State) (c : Chip) : s.accept c = .next { s with chip := c, ret := none } := rfl
theorem State.observe_eq (s : State) (v : Byte) : s.observe v = .next { s with ret := some v } := rfl
theorem State.openBus_eq (s : State) : s.openBus = .next { s with ret := some s.mdr } := rfl
theorem State.ignoreWrite_eq (s : State) : s.ignoreWrite = .next { s with ret := none } := rfl

end Sys2Proof.Machine
end

