-- ==== Sys2Proof/Laws/Ops.lean ====
section
/-! SUPPORT. One lemma per shared operation that says once everything it does: translation, the cursors, the math unit's
timers, the RTC's protocol and the step's inputs. -/

namespace Sys2Proof.Machine

/-! Translation (20_memory.md) -/

/-- The law of `mirror` (R8, D24). -/
theorem mirror_lt (P : Params) (o size : Nat) (h : 0 < size) : mirror P o size < size := Nat.mod_lt _ h

theorem dromPhys_lt (P : Params) (msize : BitVec 2) (x : Addr24) (h : 0 < P.dromSize) :
    dromPhys P msize x < P.dromSize := mirror_lt P _ _ h

/-- A `mirror` that has its law already is unchanged (log 2). -/
theorem mirror_eq_raw (P : Params) (o size : Nat) (h : P.mirrorRaw o size < size) :
    mirror P o size = P.mirrorRaw o size := Nat.mod_eq_of_lt h

/-- A read of a data ROM that is not empty (R104). -/
theorem dromRead_eq (P : Params) (draw : Nat) (msize : BitVec 2) (x : Addr24) (h : P.dromSize ≠ 0) :
    dromRead P draw msize x = P.dromByte (dromPhys P msize x) := if_neg h

/-- A read of a program ROM that is not empty (R107). -/
theorem promRead_eq (P : Params) (draw offset : Nat) (h : P.promSize ≠ 0) :
    promRead P draw offset = P.promByte (mirror P offset P.promSize) := if_neg h

theorem ramOffset_lt (P : Params) (a : Addr24) (h : 0 < P.ramSize) : ramOffset P a < P.ramSize := mirror_lt P _ _ h

theorem ramCell_eq_some {P : Params} {mmu : Mmu} {a : Addr24} {o : Nat} (h : ramCell P mmu a = some o) :
    inRamWindow a = true ∧ mmu.ramEn = true ∧ P.ramSize ≠ 0 ∧ o = ramOffset P a ∧ o < P.ramSize := by
  unfold ramCell at h
  split at h
  · rename_i hc
    obtain rfl : ramOffset P a = o := by simpa using h
    exact ⟨hc.1, hc.2.1, hc.2.2, rfl, ramOffset_lt P a (by omega)⟩
  · simp at h

/-! The data port (42_data_port.md) -/

theorem stepA_eq (rom : Addr24 → Byte) (p : DataPort) :
    stepA rom p = { p with
      curA := moveCursor (dirA p) p.curA 1
      visA := rom (moveCursor (dirA p) p.curA 1) } := rfl

theorem tryIncB_fires (rom : Addr24 → Byte) (p : DataPort) (h : p.latLo = true ∧ p.latHi = true) :
    tryIncB rom p = { p with
      curB := moveCursor (dirB p) p.curB (p.incB.setWidth 24)
      visB := rom (moveCursor (dirB p) p.curB (p.incB.setWidth 24))
      latLo := false
      latHi := false } := by
  simp [tryIncB, h, refreshB]

theorem tryIncB_idle (rom : Addr24 → Byte) (p : DataPort) (h : ¬ (p.latLo = true ∧ p.latHi = true)) :
    tryIncB rom p = p := by
  simp only [tryIncB, Bool.and_eq_true, h, if_false]

theorem moveCursor_forward (cur amount : Addr24) :
    (moveCursor false cur amount).toNat = (cur.toNat + amount.toNat) % 2 ^ 24 := by
  simp [moveCursor, BitVec.toNat_add]

theorem moveCursor_backward (cur amount : Addr24) :
    (moveCursor true cur amount).toNat = (cur.toNat + 2 ^ 24 - amount.toNat) % 2 ^ 24 := by
  have := cur.isLt
  have := amount.isLt
  simp only [moveCursor, if_true, BitVec.toNat_sub]
  congr 1
  omega

/-! The timers (46_clock_loop.md R411 to R413) -/

theorem mulTimerStep_idle (m : MathUnit) (h : m.mulWait = 0) : mulTimerStep m = m := by
  simp [mulTimerStep, h]

theorem mulTimerStep_completes (m : MathUnit) (h : m.mulWait = 1) :
    mulTimerStep m = { m with mulWait := 0, mres := m.mulPend } := by
  simp [mulTimerStep, h, mulComplete]

theorem mulTimerStep_counts (m : MathUnit) (n : Nat) (h : m.mulWait = n + 2) :
    mulTimerStep m = { m with mulWait := n + 1 } := by
  simp [mulTimerStep, h]

theorem divTimerStep_idle (m : MathUnit) (h : m.divWait = 0) : divTimerStep m = m := by
  simp [divTimerStep, h]

theorem divTimerStep_completes (m : MathUnit) (h : m.divWait = 1) :
    divTimerStep m = { m with divWait := 0, mres := m.divPendQ, mrem := m.divPendR } := by
  simp [divTimerStep, h, divComplete]

theorem divTimerStep_counts (m : MathUnit) (n : Nat) (h : m.divWait = n + 2) :
    divTimerStep m = { m with divWait := n + 1 } := by
  simp [divTimerStep, h]

theorem rtcWaitStep_idle (r : Rtc) (h : r.waitT = 0) : rtcWaitStep r = r := by
  simp [rtcWaitStep, h]

theorem rtcWaitStep_clears (r : Rtc) (h : r.waitT = 1) :
    rtcWaitStep r = { r with waitT := 0, busy := false } := by
  simp [rtcWaitStep, h]

theorem rtcWaitStep_counts (r : Rtc) (n : Nat) (h : r.waitT = n + 2) :
    rtcWaitStep r = { r with waitT := n + 1 } := by
  simp [rtcWaitStep, h]

/-- What one TICK leaves of each unit (R410). -/
theorem tickChip_eq (hasRtc : Bool) (c : Chip) :
    tickChip hasRtc c = { c with
      math := divTimerStep (mulTimerStep c.math)
      rtc := rtcCounterStep hasRtc (rtcWaitStep c.rtc)
      cycles := c.cycles + 1 } := rfl

theorem advance_add (hasRtc : Bool) (m n : Nat) (c : Chip) :
    advance hasRtc (m + n) c = advance hasRtc n (advance hasRtc m c) := by
  induction m generalizing c with
  | zero => simp [advance]
  | succ m ih => rw [Nat.succ_add]; exact ih (tickChip hasRtc c)

theorem advance_succ (hasRtc : Bool) (n : Nat) (c : Chip) :
    advance hasRtc (n + 1) c = tickChip hasRtc (advance hasRtc n c) := advance_add hasRtc n 1 c

/-! The interrupt flags (R414) -/

theorem getLsbD_raiseWhen (cond : Bool) (src : IrqSource) (irq : BitVec 5) (k : Nat) :
    (raiseWhen cond src irq).getLsbD k = (irq.getLsbD k || (cond && decide (k = src.bit))) := by
  have hb : src.bit < 5 := by cases src <;> decide
  by_cases hk : k < 5
  · cases cond
    · simp [raiseWhen]
    · interval_cases k <;> cases src <;> simp [raiseWhen, IrqSource.bit]
  · have : ¬ k = src.bit := by omega
    simp [this, BitVec.getLsbD_of_ge _ k (by omega : 5 ≤ k)]

/-! The RTC's nibbles (45_rtc.md R373, R374) -/

theorem nibRead_cell (r : Rtc) (n : Nibble) (h : n.toNat < 13) : nibRead r n = r.nib[n.toNat] := by
  simp [nibRead, h]

theorem nibWrite_cell (r : Rtc) (n v : Nibble) (h : n.toNat < 13) :
    nibWrite r n v = { r with nib := r.nib.set n.toNat v } := by
  simp [nibWrite, h]

theorem nibWrite_lost (r : Rtc) (v : Nibble) : nibWrite r 13 v = { r with lost := v.getLsbD 0 } := rfl

theorem nibWrite_none (r : Rtc) (n v : Nibble) (h : 13 < n.toNat) : nibWrite r n v = r := by
  have h1 : ¬ n.toNat < 13 := by omega
  have h2 : n ≠ 13#4 := by rintro rfl; simp at h
  simp [nibWrite, h1, h2]

/-! The step's inputs (20_memory.md R120, R121) -/

theorem step_event (s : State) (w : EventWord) (m : Byte) (rest : List Input) (i : Instr)
    (h : s.inbox = .event w m :: rest) (hd : decode w = .ok i) : step s = exec i (s.takeEvent rest m) := by
  simp only [step, h, hd]

theorem step_reset (s : State) (rest : List Input) (h : s.inbox = .reset :: rest) :
    step s = .next (s.takeReset rest) := by
  simp only [step, h]

theorem step_restore (s : State) (rest : List Input) (c : Chip) (h : s.inbox = .restore c :: rest) :
    step s = .next (s.takeRestore rest c) := by
  simp only [step, h]

theorem run_succ (n : Nat) (s t : State) (h : step s = .next t) :
    Host.Core.run Sys2Proof.core (n + 1) s = Host.Core.run Sys2Proof.core n t := by
  have h' : Sys2Proof.core.step s = .next t := h
  simp only [Host.Core.run, h']

end Sys2Proof.Machine
end

