-- ==== Sys2Proof/Laws/PerInstr.lean ====
section
/-! SUPPORT. Per-instruction family `EncodesItsRow`: the word of an event lies in its row of opcode_table.json, whatever
its operands: under the row's mask it is the row's match value. -/

namespace Sys2Proof

/-- A row's mask and match value, as opcode_table.json gives them. -/
structure TableRow where
  /-- the bits the row fixes -/
  mask : EventWord
  /-- the value of those bits -/
  value : EventWord
  deriving DecidableEq, Repr

/-- The row of an event. -/
def rowOf : Instr → TableRow
  | .rdDdata _ => ⟨0xFF00FFFFFF#40, 0x0000480000#40⟩
  | .wrDdata _ _ => ⟨0xFF00FFFF00#40, 0x2000480000#40⟩
  | .rdDtbl0 _ => ⟨0xFF00FFFFFF#40, 0x0000480100#40⟩
  | .wrDtbl0 _ _ => ⟨0xFF00FFFF00#40, 0x2000480100#40⟩
  | .rdDtbl1 _ => ⟨0xFF00FFFFFF#40, 0x0000480200#40⟩
  | .wrDtbl1 _ _ => ⟨0xFF00FFFF00#40, 0x2000480200#40⟩
  | .rdDtbl2 _ => ⟨0xFF00FFFFFF#40, 0x0000480300#40⟩
  | .wrDtbl2 _ _ => ⟨0xFF00FFFF00#40, 0x2000480300#40⟩
  | .rdDidx _ => ⟨0xFF00FFFFFF#40, 0x0000480400#40⟩
  | .wrDidx _ _ => ⟨0xFF00FFFF00#40, 0x2000480400#40⟩
  | .rdDaux0 _ => ⟨0xFF00FFFFFF#40, 0x0000480500#40⟩
  | .wrDaux0 _ _ => ⟨0xFF00FFFF00#40, 0x2000480500#40⟩
  | .rdDaux1 _ => ⟨0xFF00FFFFFF#40, 0x0000480600#40⟩
  | .wrDaux1 _ _ => ⟨0xFF00FFFF00#40, 0x2000480600#40⟩
  | .rdDaux2 _ => ⟨0xFF00FFFFFF#40, 0x0000480700#40⟩
  | .wrDaux2 _ _ => ⟨0xFF00FFFF00#40, 0x2000480700#40⟩
  | .rdDaux3 _ => ⟨0xFF00FFFFFF#40, 0x0000480800#40⟩
  | .wrDaux3 _ _ => ⟨0xFF00FFFF00#40, 0x2000480800#40⟩
  | .rdDlen0 _ => ⟨0xFF00FFFFFF#40, 0x0000480900#40⟩
  | .wrDlen0 _ _ => ⟨0xFF00FFFF00#40, 0x2000480900#40⟩
  | .rdDlen1 _ => ⟨0xFF00FFFFFF#40, 0x0000480A00#40⟩
  | .wrDlen1 _ _ => ⟨0xFF00FFFF00#40, 0x2000480A00#40⟩
  | .rdDaux4 _ => ⟨0xFF00FFFFFF#40, 0x0000480B00#40⟩
  | .wrDaux4 _ _ => ⟨0xFF00FFFF00#40, 0x2000480B00#40⟩
  | .rdDstat _ => ⟨0xFF00FFFFFF#40, 0x0000480C00#40⟩
  | .wrDstat _ _ => ⟨0xFF00FFFF00#40, 0x2000480C00#40⟩
  | .rdPadata _ => ⟨0xFF00FFFFFF#40, 0x0000481000#40⟩
  | .wrPadata _ _ => ⟨0xFF00FFFF00#40, 0x2000481000#40⟩
  | .rdPaadr0 _ => ⟨0xFF00FFFFFF#40, 0x0000481100#40⟩
  | .wrPaadr0 _ _ => ⟨0xFF00FFFF00#40, 0x2000481100#40⟩
  | .rdPaadr1 _ => ⟨0xFF00FFFFFF#40, 0x0000481200#40⟩
  | .wrPaadr1 _ _ => ⟨0xFF00FFFF00#40, 0x2000481200#40⟩
  | .rdPaadr2 _ => ⟨0xFF00FFFFFF#40, 0x0000481300#40⟩
  | .wrPaadr2 _ _ => ⟨0xFF00FFFF00#40, 0x2000481300#40⟩
  | .rdPbinc0 _ => ⟨0xFF00FFFFFF#40, 0x0000481400#40⟩
  | .wrPbinc0 _ _ => ⟨0xFF00FFFF00#40, 0x2000481400#40⟩
  | .rdPbinc1 _ => ⟨0xFF00FFFFFF#40, 0x0000481500#40⟩
  | .wrPbinc1 _ _ => ⟨0xFF00FFFF00#40, 0x2000481500#40⟩
  | .rdPbadr0 _ => ⟨0xFF00FFFFFF#40, 0x0000481600#40⟩
  | .wrPbadr0 _ _ => ⟨0xFF00FFFF00#40, 0x2000481600#40⟩
  | .rdPbadr1 _ => ⟨0xFF00FFFFFF#40, 0x0000481700#40⟩
  | .wrPbadr1 _ _ => ⟨0xFF00FFFF00#40, 0x2000481700#40⟩
  | .rdPmode _ => ⟨0xFF00FFFFFF#40, 0x0000481800#40⟩
  | .wrPmode _ _ => ⟨0xFF00FFFF00#40, 0x2000481800#40⟩
  | .rdPbadr2 _ => ⟨0xFF00FFFFFF#40, 0x0000481900#40⟩
  | .wrPbadr2 _ _ => ⟨0xFF00FFFF00#40, 0x2000481900#40⟩
  | .rdPbdata _ => ⟨0xFF00FFFFFF#40, 0x0000481A00#40⟩
  | .wrPbdata _ _ => ⟨0xFF00FFFF00#40, 0x2000481A00#40⟩
  | .rdMopa0 _ => ⟨0xFF00FFFFFF#40, 0x0000482000#40⟩
  | .wrMopa0 _ _ => ⟨0xFF00FFFF00#40, 0x2000482000#40⟩
  | .rdMopa1 _ => ⟨0xFF00FFFFFF#40, 0x0000482100#40⟩
  | .wrMopa1 _ _ => ⟨0xFF00FFFF00#40, 0x2000482100#40⟩
  | .rdMaux0 _ => ⟨0xFF00FFFFFF#40, 0x0000482200#40⟩
  | .wrMaux0 _ _ => ⟨0xFF00FFFF00#40, 0x2000482200#40⟩
  | .rdMaux1 _ => ⟨0xFF00FFFFFF#40, 0x0000482300#40⟩
  | .wrMaux1 _ _ => ⟨0xFF00FFFF00#40, 0x2000482300#40⟩
  | .rdMopm0 _ => ⟨0xFF00FFFFFF#40, 0x0000482400#40⟩
  | .wrMopm0 _ _ => ⟨0xFF00FFFF00#40, 0x2000482400#40⟩
  | .rdMopm1 _ => ⟨0xFF00FFFFFF#40, 0x0000482500#40⟩
  | .wrMopm1 _ _ => ⟨0xFF00FFFF00#40, 0x2000482500#40⟩
  | .rdMopd0 _ => ⟨0xFF00FFFFFF#40, 0x0000482600#40⟩
  | .wrMopd0 _ _ => ⟨0xFF00FFFF00#40, 0x2000482600#40⟩
  | .rdMopd1 _ => ⟨0xFF00FFFFFF#40, 0x0000482700#40⟩
  | .wrMopd1 _ _ => ⟨0xFF00FFFF00#40, 0x2000482700#40⟩
  | .rdMres0 _ => ⟨0xFF00FFFFFF#40, 0x0000482800#40⟩
  | .wrMres0 _ _ => ⟨0xFF00FFFF00#40, 0x2000482800#40⟩
  | .rdMres1 _ => ⟨0xFF00FFFFFF#40, 0x0000482900#40⟩
  | .wrMres1 _ _ => ⟨0xFF00FFFF00#40, 0x2000482900#40⟩
  | .rdMres2 _ => ⟨0xFF00FFFFFF#40, 0x0000482A00#40⟩
  | .wrMres2 _ _ => ⟨0xFF00FFFF00#40, 0x2000482A00#40⟩
  | .rdMres3 _ => ⟨0xFF00FFFFFF#40, 0x0000482B00#40⟩
  | .wrMres3 _ _ => ⟨0xFF00FFFF00#40, 0x2000482B00#40⟩
  | .rdMrem0 _ => ⟨0xFF00FFFFFF#40, 0x0000482C00#40⟩
  | .wrMrem0 _ _ => ⟨0xFF00FFFF00#40, 0x2000482C00#40⟩
  | .rdMrem1 _ => ⟨0xFF00FFFFFF#40, 0x0000482D00#40⟩
  | .wrMrem1 _ _ => ⟨0xFF00FFFF00#40, 0x2000482D00#40⟩
  | .rdMsign _ => ⟨0xFF00FFFFFF#40, 0x0000482E00#40⟩
  | .wrMsign _ _ => ⟨0xFF00FFFF00#40, 0x2000482E00#40⟩
  | .rdMstat _ => ⟨0xFF00FFFFFF#40, 0x0000482F00#40⟩
  | .wrMstat _ _ => ⟨0xFF00FFFF00#40, 0x2000482F00#40⟩
  | .rdMmbank0 _ => ⟨0xFF00FFFFFF#40, 0x0000483000#40⟩
  | .wrMmbank0 _ _ => ⟨0xFF00FFFF00#40, 0x2000483000#40⟩
  | .rdMmbank1 _ => ⟨0xFF00FFFFFF#40, 0x0000483100#40⟩
  | .wrMmbank1 _ _ => ⟨0xFF00FFFF00#40, 0x2000483100#40⟩
  | .rdMmbank2 _ => ⟨0xFF00FFFFFF#40, 0x0000483200#40⟩
  | .wrMmbank2 _ _ => ⟨0xFF00FFFF00#40, 0x2000483200#40⟩
  | .rdMmbank3 _ => ⟨0xFF00FFFFFF#40, 0x0000483300#40⟩
  | .wrMmbank3 _ _ => ⟨0xFF00FFFF00#40, 0x2000483300#40⟩
  | .rdMmsize _ => ⟨0xFF00FFFFFF#40, 0x0000483400#40⟩
  | .wrMmsize _ _ => ⟨0xFF00FFFF00#40, 0x2000483400#40⟩
  | .rdRtcen _ => ⟨0xFF00FFFFFF#40, 0x0000484000#40⟩
  | .wrRtcen _ _ => ⟨0xFF00FFFF00#40, 0x2000484000#40⟩
  | .rdRtcdata _ => ⟨0xFF00FFFFFF#40, 0x0000484100#40⟩
  | .wrRtcdata _ _ => ⟨0xFF00FFFF00#40, 0x2000484100#40⟩
  | .rdRtcstat _ => ⟨0xFF00FFFFFF#40, 0x0000484200#40⟩
  | .wrRtcstat _ _ => ⟨0xFF00FFFF00#40, 0x2000484200#40⟩
  | .rdUnmapped480D _ => ⟨0xFF00FFFFFF#40, 0x0000480D00#40⟩
  | .wrUnmapped480D _ _ => ⟨0xFF00FFFF00#40, 0x2000480D00#40⟩
  | .rdUnmapped480E _ => ⟨0xFF00FFFFFF#40, 0x0000480E00#40⟩
  | .wrUnmapped480E _ _ => ⟨0xFF00FFFF00#40, 0x2000480E00#40⟩
  | .rdUnmapped480F _ => ⟨0xFF00FFFFFF#40, 0x0000480F00#40⟩
  | .wrUnmapped480F _ _ => ⟨0xFF00FFFF00#40, 0x2000480F00#40⟩
  | .rdUnmapped481B _ => ⟨0xFF00FFFFFF#40, 0x0000481B00#40⟩
  | .wrUnmapped481B _ _ => ⟨0xFF00FFFF00#40, 0x2000481B00#40⟩
  | .rdUnmapped481C _ => ⟨0xFF00FFFFFF#40, 0x0000481C00#40⟩
  | .wrUnmapped481C _ _ => ⟨0xFF00FFFF00#40, 0x2000481C00#40⟩
  | .rdUnmapped481D _ => ⟨0xFF00FFFFFF#40, 0x0000481D00#40⟩
  | .wrUnmapped481D _ _ => ⟨0xFF00FFFF00#40, 0x2000481D00#40⟩
  | .rdUnmapped481E _ => ⟨0xFF00FFFFFF#40, 0x0000481E00#40⟩
  | .wrUnmapped481E _ _ => ⟨0xFF00FFFF00#40, 0x2000481E00#40⟩
  | .rdUnmapped481F _ => ⟨0xFF00FFFFFF#40, 0x0000481F00#40⟩
  | .wrUnmapped481F _ _ => ⟨0xFF00FFFF00#40, 0x2000481F00#40⟩
  | .rdUnmapped4835 _ => ⟨0xFF00FFFFFF#40, 0x0000483500#40⟩
  | .wrUnmapped4835 _ _ => ⟨0xFF00FFFF00#40, 0x2000483500#40⟩
  | .rdUnmapped4836 _ => ⟨0xFF00FFFFFF#40, 0x0000483600#40⟩
  | .wrUnmapped4836 _ _ => ⟨0xFF00FFFF00#40, 0x2000483600#40⟩
  | .rdUnmapped4837 _ => ⟨0xFF00FFFFFF#40, 0x0000483700#40⟩
  | .wrUnmapped4837 _ _ => ⟨0xFF00FFFF00#40, 0x2000483700#40⟩
  | .rdUnmapped4838 _ => ⟨0xFF00FFFFFF#40, 0x0000483800#40⟩
  | .wrUnmapped4838 _ _ => ⟨0xFF00FFFF00#40, 0x2000483800#40⟩
  | .rdUnmapped4839 _ => ⟨0xFF00FFFFFF#40, 0x0000483900#40⟩
  | .wrUnmapped4839 _ _ => ⟨0xFF00FFFF00#40, 0x2000483900#40⟩
  | .rdUnmapped483A _ => ⟨0xFF00FFFFFF#40, 0x0000483A00#40⟩
  | .wrUnmapped483A _ _ => ⟨0xFF00FFFF00#40, 0x2000483A00#40⟩
  | .rdUnmapped483B _ => ⟨0xFF00FFFFFF#40, 0x0000483B00#40⟩
  | .wrUnmapped483B _ _ => ⟨0xFF00FFFF00#40, 0x2000483B00#40⟩
  | .rdUnmapped483C _ => ⟨0xFF00FFFFFF#40, 0x0000483C00#40⟩
  | .wrUnmapped483C _ _ => ⟨0xFF00FFFF00#40, 0x2000483C00#40⟩
  | .rdUnmapped483D _ => ⟨0xFF00FFFFFF#40, 0x0000483D00#40⟩
  | .wrUnmapped483D _ _ => ⟨0xFF00FFFF00#40, 0x2000483D00#40⟩
  | .rdUnmapped483E _ => ⟨0xFF00FFFFFF#40, 0x0000483E00#40⟩
  | .wrUnmapped483E _ _ => ⟨0xFF00FFFF00#40, 0x2000483E00#40⟩
  | .rdUnmapped483F _ => ⟨0xFF00FFFFFF#40, 0x0000483F00#40⟩
  | .wrUnmapped483F _ _ => ⟨0xFF00FFFF00#40, 0x2000483F00#40⟩
  | .tick => ⟨0xFFFFFFFFFF#40, 0x4000000000#40⟩
  | .winrd _ => ⟨0xFF000000FF#40, 0x6000000000#40⟩
  | .winwr _ _ => ⟨0xFF00000000#40, 0x8000000000#40⟩
  | .rdOutOfRange _ => ⟨0xFF000000FF#40, 0x0000000000#40⟩
  | .wrOutOfRange _ _ => ⟨0xFF00000000#40, 0x2000000000#40⟩

theorem and_append {m n : Nat} (x u : BitVec m) (y v : BitVec n) :
    (x ++ y) &&& (u ++ v) = (x &&& u) ++ (y &&& v) := by
  apply BitVec.eq_of_getLsbD_eq
  intro i hi
  simp only [BitVec.getLsbD_and, BitVec.getLsbD_append]
  split <;> rfl

/-- A word under a mask, field by field. -/
theorem eventWord_and (c c' : BitVec 3) (a a' : Addr24) (d d' : Byte) :
    eventWord c a d &&& (c' ++ (0x1F#5 ++ (a' ++ d')) : EventWord) =
      eventWord (c &&& c') (a &&& a') (d &&& d') := by
  have h1 := and_append c c' (0#5 ++ (a ++ d)) (0x1F#5 ++ (a' ++ d'))
  have h2 := and_append 0#5 0x1F#5 (a ++ d) (a' ++ d')
  have h3 := and_append a a' d d'
  rw [h3] at h2
  rw [h2] at h1
  exact h1

theorem eventWord_and_append (c : BitVec 3) (b : Byte) (a : Addr16) (d m : Byte) :
    eventWord c (b ++ a) d &&& (0x7#3 ++ (0x1F#5 ++ ((0x00#8 ++ 0xFFFF#16 : Addr24) ++ m)) : EventWord) =
      eventWord c (0#8 ++ a) (d &&& m) := by
  rw [eventWord_and, and_append]
  have hc : c &&& 0x7#3 = c := BitVec.and_allOnes
  have hb : b &&& 0#8 = 0#8 := BitVec.and_zero
  have ha : a &&& 0xFFFF#16 = a := BitVec.and_allOnes
  rw [hc, hb, ha]

/-- A read's word under the mask of a mapped row. -/
theorem rdWord_row (b : Byte) (a : Addr16) : rdWord b a &&& 0xFF00FFFFFF#40 = rdWord 0 a :=
  eventWord_and_append 0b000#3 b a 0 0xFF#8

/-- A write's word under the mask of a mapped row. -/
theorem wrWord_row (b d : Byte) (a : Addr16) : wrWord b d a &&& 0xFF00FFFF00#40 = wrWord 0 0 a := by
  have h := eventWord_and_append 0b001#3 b a d 0x00#8
  rwa [BitVec.and_zero] at h

/-- A word under a mask that fixes the class and the zero bits and none of the address. -/
theorem eventWord_class (c : BitVec 3) (a : Addr24) (d m : Byte) :
    eventWord c a d &&& (0x7#3 ++ (0x1F#5 ++ (0#24 ++ m)) : EventWord) = eventWord c 0 (d &&& m) := by
  rw [eventWord_and]
  have hc : c &&& 0x7#3 = c := BitVec.and_allOnes
  have ha : a &&& 0#24 = 0#24 := BitVec.and_zero
  rw [hc, ha]
  rfl

/-- The statement of the family: the event's word is in the event's row. -/
def Laws.EncodesItsRow.Statement (i : Instr) : Prop := encode i &&& (rowOf i).mask = (rowOf i).value

theorem Laws.EncodesItsRow.rdDdata (b : Byte) : Laws.EncodesItsRow.Statement (.rdDdata b) := rdWord_row b _
theorem Laws.EncodesItsRow.wrDdata (b d : Byte) : Laws.EncodesItsRow.Statement (.wrDdata b d) := wrWord_row b d _
theorem Laws.EncodesItsRow.rdDtbl0 (b : Byte) : Laws.EncodesItsRow.Statement (.rdDtbl0 b) := rdWord_row b _
theorem Laws.EncodesItsRow.wrDtbl0 (b d : Byte) : Laws.EncodesItsRow.Statement (.wrDtbl0 b d) := wrWord_row b d _
theorem Laws.EncodesItsRow.rdDtbl1 (b : Byte) : Laws.EncodesItsRow.Statement (.rdDtbl1 b) := rdWord_row b _
theorem Laws.EncodesItsRow.wrDtbl1 (b d : Byte) : Laws.EncodesItsRow.Statement (.wrDtbl1 b d) := wrWord_row b d _
theorem Laws.EncodesItsRow.rdDtbl2 (b : Byte) : Laws.EncodesItsRow.Statement (.rdDtbl2 b) := rdWord_row b _
theorem Laws.EncodesItsRow.wrDtbl2 (b d : Byte) : Laws.EncodesItsRow.Statement (.wrDtbl2 b d) := wrWord_row b d _
theorem Laws.EncodesItsRow.rdDidx (b : Byte) : Laws.EncodesItsRow.Statement (.rdDidx b) := rdWord_row b _
theorem Laws.EncodesItsRow.wrDidx (b d : Byte) : Laws.EncodesItsRow.Statement (.wrDidx b d) := wrWord_row b d _
theorem Laws.EncodesItsRow.rdDaux0 (b : Byte) : Laws.EncodesItsRow.Statement (.rdDaux0 b) := rdWord_row b _
theorem Laws.EncodesItsRow.wrDaux0 (b d : Byte) : Laws.EncodesItsRow.Statement (.wrDaux0 b d) := wrWord_row b d _
theorem Laws.EncodesItsRow.rdDaux1 (b : Byte) : Laws.EncodesItsRow.Statement (.rdDaux1 b) := rdWord_row b _
theorem Laws.EncodesItsRow.wrDaux1 (b d : Byte) : Laws.EncodesItsRow.Statement (.wrDaux1 b d) := wrWord_row b d _
theorem Laws.EncodesItsRow.rdDaux2 (b : Byte) : Laws.EncodesItsRow.Statement (.rdDaux2 b) := rdWord_row b _
theorem Laws.EncodesItsRow.wrDaux2 (b d : Byte) : Laws.EncodesItsRow.Statement (.wrDaux2 b d) := wrWord_row b d _
theorem Laws.EncodesItsRow.rdDaux3 (b : Byte) : Laws.EncodesItsRow.Statement (.rdDaux3 b) := rdWord_row b _
theorem Laws.EncodesItsRow.wrDaux3 (b d : Byte) : Laws.EncodesItsRow.Statement (.wrDaux3 b d) := wrWord_row b d _
theorem Laws.EncodesItsRow.rdDlen0 (b : Byte) : Laws.EncodesItsRow.Statement (.rdDlen0 b) := rdWord_row b _
theorem Laws.EncodesItsRow.wrDlen0 (b d : Byte) : Laws.EncodesItsRow.Statement (.wrDlen0 b d) := wrWord_row b d _
theorem Laws.EncodesItsRow.rdDlen1 (b : Byte) : Laws.EncodesItsRow.Statement (.rdDlen1 b) := rdWord_row b _
theorem Laws.EncodesItsRow.wrDlen1 (b d : Byte) : Laws.EncodesItsRow.Statement (.wrDlen1 b d) := wrWord_row b d _
theorem Laws.EncodesItsRow.rdDaux4 (b : Byte) : Laws.EncodesItsRow.Statement (.rdDaux4 b) := rdWord_row b _
theorem Laws.EncodesItsRow.wrDaux4 (b d : Byte) : Laws.EncodesItsRow.Statement (.wrDaux4 b d) := wrWord_row b d _
theorem Laws.EncodesItsRow.rdDstat (b : Byte) : Laws.EncodesItsRow.Statement (.rdDstat b) := rdWord_row b _
theorem Laws.EncodesItsRow.wrDstat (b d : Byte) : Laws.EncodesItsRow.Statement (.wrDstat b d) := wrWord_row b d _
theorem Laws.EncodesItsRow.rdPadata (b : Byte) : Laws.EncodesItsRow.Statement (.rdPadata b) := rdWord_row b _
theorem Laws.EncodesItsRow.wrPadata (b d : Byte) : Laws.EncodesItsRow.Statement (.wrPadata b d) := wrWord_row b d _
theorem Laws.EncodesItsRow.rdPaadr0 (b : Byte) : Laws.EncodesItsRow.Statement (.rdPaadr0 b) := rdWord_row b _
theorem Laws.EncodesItsRow.wrPaadr0 (b d : Byte) : Laws.EncodesItsRow.Statement (.wrPaadr0 b d) := wrWord_row b d _
theorem Laws.EncodesItsRow.rdPaadr1 (b : Byte) : Laws.EncodesItsRow.Statement (.rdPaadr1 b) := rdWord_row b _
theorem Laws.EncodesItsRow.wrPaadr1 (b d : Byte) : Laws.EncodesItsRow.Statement (.wrPaadr1 b d) := wrWord_row b d _
theorem Laws.EncodesItsRow.rdPaadr2 (b : Byte) : Laws.EncodesItsRow.Statement (.rdPaadr2 b) := rdWord_row b _
theorem Laws.EncodesItsRow.wrPaadr2 (b d : Byte) : Laws.EncodesItsRow.Statement (.wrPaadr2 b d) := wrWord_row b d _
theorem Laws.EncodesItsRow.rdPbinc0 (b : Byte) : Laws.EncodesItsRow.Statement (.rdPbinc0 b) := rdWord_row b _
theorem Laws.EncodesItsRow.wrPbinc0 (b d : Byte) : Laws.EncodesItsRow.Statement (.wrPbinc0 b d) := wrWord_row b d _
theorem Laws.EncodesItsRow.rdPbinc1 (b : Byte) : Laws.EncodesItsRow.Statement (.rdPbinc1 b) := rdWord_row b _
theorem Laws.EncodesItsRow.wrPbinc1 (b d : Byte) : Laws.EncodesItsRow.Statement (.wrPbinc1 b d) := wrWord_row b d _
theorem Laws.EncodesItsRow.rdPbadr0 (b : Byte) : Laws.EncodesItsRow.Statement (.rdPbadr0 b) := rdWord_row b _
theorem Laws.EncodesItsRow.wrPbadr0 (b d : Byte) : Laws.EncodesItsRow.Statement (.wrPbadr0 b d) := wrWord_row b d _
theorem Laws.EncodesItsRow.rdPbadr1 (b : Byte) : Laws.EncodesItsRow.Statement (.rdPbadr1 b) := rdWord_row b _
theorem Laws.EncodesItsRow.wrPbadr1 (b d : Byte) : Laws.EncodesItsRow.Statement (.wrPbadr1 b d) := wrWord_row b d _
theorem Laws.EncodesItsRow.rdPmode (b : Byte) : Laws.EncodesItsRow.Statement (.rdPmode b) := rdWord_row b _
theorem Laws.EncodesItsRow.wrPmode (b d : Byte) : Laws.EncodesItsRow.Statement (.wrPmode b d) := wrWord_row b d _
theorem Laws.EncodesItsRow.rdPbadr2 (b : Byte) : Laws.EncodesItsRow.Statement (.rdPbadr2 b) := rdWord_row b _
theorem Laws.EncodesItsRow.wrPbadr2 (b d : Byte) : Laws.EncodesItsRow.Statement (.wrPbadr2 b d) := wrWord_row b d _
theorem Laws.EncodesItsRow.rdPbdata (b : Byte) : Laws.EncodesItsRow.Statement (.rdPbdata b) := rdWord_row b _
theorem Laws.EncodesItsRow.wrPbdata (b d : Byte) : Laws.EncodesItsRow.Statement (.wrPbdata b d) := wrWord_row b d _
theorem Laws.EncodesItsRow.rdMopa0 (b : Byte) : Laws.EncodesItsRow.Statement (.rdMopa0 b) := rdWord_row b _
theorem Laws.EncodesItsRow.wrMopa0 (b d : Byte) : Laws.EncodesItsRow.Statement (.wrMopa0 b d) := wrWord_row b d _
theorem Laws.EncodesItsRow.rdMopa1 (b : Byte) : Laws.EncodesItsRow.Statement (.rdMopa1 b) := rdWord_row b _
theorem Laws.EncodesItsRow.wrMopa1 (b d : Byte) : Laws.EncodesItsRow.Statement (.wrMopa1 b d) := wrWord_row b d _
theorem Laws.EncodesItsRow.rdMaux0 (b : Byte) : Laws.EncodesItsRow.Statement (.rdMaux0 b) := rdWord_row b _
theorem Laws.EncodesItsRow.wrMaux0 (b d : Byte) : Laws.EncodesItsRow.Statement (.wrMaux0 b d) := wrWord_row b d _
theorem Laws.EncodesItsRow.rdMaux1 (b : Byte) : Laws.EncodesItsRow.Statement (.rdMaux1 b) := rdWord_row b _
theorem Laws.EncodesItsRow.wrMaux1 (b d : Byte) : Laws.EncodesItsRow.Statement (.wrMaux1 b d) := wrWord_row b d _
theorem Laws.EncodesItsRow.rdMopm0 (b : Byte) : Laws.EncodesItsRow.Statement (.rdMopm0 b) := rdWord_row b _
theorem Laws.EncodesItsRow.wrMopm0 (b d : Byte) : Laws.EncodesItsRow.Statement (.wrMopm0 b d) := wrWord_row b d _
theorem Laws.EncodesItsRow.rdMopm1 (b : Byte) : Laws.EncodesItsRow.Statement (.rdMopm1 b) := rdWord_row b _
theorem Laws.EncodesItsRow.wrMopm1 (b d : Byte) : Laws.EncodesItsRow.Statement (.wrMopm1 b d) := wrWord_row b d _
theorem Laws.EncodesItsRow.rdMopd0 (b : Byte) : Laws.EncodesItsRow.Statement (.rdMopd0 b) := rdWord_row b _
theorem Laws.EncodesItsRow.wrMopd0 (b d : Byte) : Laws.EncodesItsRow.Statement (.wrMopd0 b d) := wrWord_row b d _
theorem Laws.EncodesItsRow.rdMopd1 (b : Byte) : Laws.EncodesItsRow.Statement (.rdMopd1 b) := rdWord_row b _
theorem Laws.EncodesItsRow.wrMopd1 (b d : Byte) : Laws.EncodesItsRow.Statement (.wrMopd1 b d) := wrWord_row b d _
theorem Laws.EncodesItsRow.rdMres0 (b : Byte) : Laws.EncodesItsRow.Statement (.rdMres0 b) := rdWord_row b _
theorem Laws.EncodesItsRow.wrMres0 (b d : Byte) : Laws.EncodesItsRow.Statement (.wrMres0 b d) := wrWord_row b d _
theorem Laws.EncodesItsRow.rdMres1 (b : Byte) : Laws.EncodesItsRow.Statement (.rdMres1 b) := rdWord_row b _
theorem Laws.EncodesItsRow.wrMres1 (b d : Byte) : Laws.EncodesItsRow.Statement (.wrMres1 b d) := wrWord_row b d _
theorem Laws.EncodesItsRow.rdMres2 (b : Byte) : Laws.EncodesItsRow.Statement (.rdMres2 b) := rdWord_row b _
theorem Laws.EncodesItsRow.wrMres2 (b d : Byte) : Laws.EncodesItsRow.Statement (.wrMres2 b d) := wrWord_row b d _
theorem Laws.EncodesItsRow.rdMres3 (b : Byte) : Laws.EncodesItsRow.Statement (.rdMres3 b) := rdWord_row b _
theorem Laws.EncodesItsRow.wrMres3 (b d : Byte) : Laws.EncodesItsRow.Statement (.wrMres3 b d) := wrWord_row b d _
theorem Laws.EncodesItsRow.rdMrem0 (b : Byte) : Laws.EncodesItsRow.Statement (.rdMrem0 b) := rdWord_row b _
theorem Laws.EncodesItsRow.wrMrem0 (b d : Byte) : Laws.EncodesItsRow.Statement (.wrMrem0 b d) := wrWord_row b d _
theorem Laws.EncodesItsRow.rdMrem1 (b : Byte) : Laws.EncodesItsRow.Statement (.rdMrem1 b) := rdWord_row b _
theorem Laws.EncodesItsRow.wrMrem1 (b d : Byte) : Laws.EncodesItsRow.Statement (.wrMrem1 b d) := wrWord_row b d _
theorem Laws.EncodesItsRow.rdMsign (b : Byte) : Laws.EncodesItsRow.Statement (.rdMsign b) := rdWord_row b _
theorem Laws.EncodesItsRow.wrMsign (b d : Byte) : Laws.EncodesItsRow.Statement (.wrMsign b d) := wrWord_row b d _
theorem Laws.EncodesItsRow.rdMstat (b : Byte) : Laws.EncodesItsRow.Statement (.rdMstat b) := rdWord_row b _
theorem Laws.EncodesItsRow.wrMstat (b d : Byte) : Laws.EncodesItsRow.Statement (.wrMstat b d) := wrWord_row b d _
theorem Laws.EncodesItsRow.rdMmbank0 (b : Byte) : Laws.EncodesItsRow.Statement (.rdMmbank0 b) := rdWord_row b _
theorem Laws.EncodesItsRow.wrMmbank0 (b d : Byte) : Laws.EncodesItsRow.Statement (.wrMmbank0 b d) := wrWord_row b d _
theorem Laws.EncodesItsRow.rdMmbank1 (b : Byte) : Laws.EncodesItsRow.Statement (.rdMmbank1 b) := rdWord_row b _
theorem Laws.EncodesItsRow.wrMmbank1 (b d : Byte) : Laws.EncodesItsRow.Statement (.wrMmbank1 b d) := wrWord_row b d _
theorem Laws.EncodesItsRow.rdMmbank2 (b : Byte) : Laws.EncodesItsRow.Statement (.rdMmbank2 b) := rdWord_row b _
theorem Laws.EncodesItsRow.wrMmbank2 (b d : Byte) : Laws.EncodesItsRow.Statement (.wrMmbank2 b d) := wrWord_row b d _
theorem Laws.EncodesItsRow.rdMmbank3 (b : Byte) : Laws.EncodesItsRow.Statement (.rdMmbank3 b) := rdWord_row b _
theorem Laws.EncodesItsRow.wrMmbank3 (b d : Byte) : Laws.EncodesItsRow.Statement (.wrMmbank3 b d) := wrWord_row b d _
theorem Laws.EncodesItsRow.rdMmsize (b : Byte) : Laws.EncodesItsRow.Statement (.rdMmsize b) := rdWord_row b _
theorem Laws.EncodesItsRow.wrMmsize (b d : Byte) : Laws.EncodesItsRow.Statement (.wrMmsize b d) := wrWord_row b d _
theorem Laws.EncodesItsRow.rdRtcen (b : Byte) : Laws.EncodesItsRow.Statement (.rdRtcen b) := rdWord_row b _
theorem Laws.EncodesItsRow.wrRtcen (b d : Byte) : Laws.EncodesItsRow.Statement (.wrRtcen b d) := wrWord_row b d _
theorem Laws.EncodesItsRow.rdRtcdata (b : Byte) : Laws.EncodesItsRow.Statement (.rdRtcdata b) := rdWord_row b _
theorem Laws.EncodesItsRow.wrRtcdata (b d : Byte) : Laws.EncodesItsRow.Statement (.wrRtcdata b d) := wrWord_row b d _
theorem Laws.EncodesItsRow.rdRtcstat (b : Byte) : Laws.EncodesItsRow.Statement (.rdRtcstat b) := rdWord_row b _
theorem Laws.EncodesItsRow.wrRtcstat (b d : Byte) : Laws.EncodesItsRow.Statement (.wrRtcstat b d) := wrWord_row b d _
theorem Laws.EncodesItsRow.rdUnmapped480D (b : Byte) : Laws.EncodesItsRow.Statement (.rdUnmapped480D b) := rdWord_row b _
theorem Laws.EncodesItsRow.wrUnmapped480D (b d : Byte) : Laws.EncodesItsRow.Statement (.wrUnmapped480D b d) := wrWord_row b d _
theorem Laws.EncodesItsRow.rdUnmapped480E (b : Byte) : Laws.EncodesItsRow.Statement (.rdUnmapped480E b) := rdWord_row b _
theorem Laws.EncodesItsRow.wrUnmapped480E (b d : Byte) : Laws.EncodesItsRow.Statement (.wrUnmapped480E b d) := wrWord_row b d _
theorem Laws.EncodesItsRow.rdUnmapped480F (b : Byte) : Laws.EncodesItsRow.Statement (.rdUnmapped480F b) := rdWord_row b _
theorem Laws.EncodesItsRow.wrUnmapped480F (b d : Byte) : Laws.EncodesItsRow.Statement (.wrUnmapped480F b d) := wrWord_row b d _
theorem Laws.EncodesItsRow.rdUnmapped481B (b : Byte) : Laws.EncodesItsRow.Statement (.rdUnmapped481B b) := rdWord_row b _
theorem Laws.EncodesItsRow.wrUnmapped481B (b d : Byte) : Laws.EncodesItsRow.Statement (.wrUnmapped481B b d) := wrWord_row b d _
theorem Laws.EncodesItsRow.rdUnmapped481C (b : Byte) : Laws.EncodesItsRow.Statement (.rdUnmapped481C b) := rdWord_row b _
theorem Laws.EncodesItsRow.wrUnmapped481C (b d : Byte) : Laws.EncodesItsRow.Statement (.wrUnmapped481C b d) := wrWord_row b d _
theorem Laws.EncodesItsRow.rdUnmapped481D (b : Byte) : Laws.EncodesItsRow.Statement (.rdUnmapped481D b) := rdWord_row b _
theorem Laws.EncodesItsRow.wrUnmapped481D (b d : Byte) : Laws.EncodesItsRow.Statement (.wrUnmapped481D b d) := wrWord_row b d _
theorem Laws.EncodesItsRow.rdUnmapped481E (b : Byte) : Laws.EncodesItsRow.Statement (.rdUnmapped481E b) := rdWord_row b _
theorem Laws.EncodesItsRow.wrUnmapped481E (b d : Byte) : Laws.EncodesItsRow.Statement (.wrUnmapped481E b d) := wrWord_row b d _
theorem Laws.EncodesItsRow.rdUnmapped481F (b : Byte) : Laws.EncodesItsRow.Statement (.rdUnmapped481F b) := rdWord_row b _
theorem Laws.EncodesItsRow.wrUnmapped481F (b d : Byte) : Laws.EncodesItsRow.Statement (.wrUnmapped481F b d) := wrWord_row b d _
theorem Laws.EncodesItsRow.rdUnmapped4835 (b : Byte) : Laws.EncodesItsRow.Statement (.rdUnmapped4835 b) := rdWord_row b _
theorem Laws.EncodesItsRow.wrUnmapped4835 (b d : Byte) : Laws.EncodesItsRow.Statement (.wrUnmapped4835 b d) := wrWord_row b d _
theorem Laws.EncodesItsRow.rdUnmapped4836 (b : Byte) : Laws.EncodesItsRow.Statement (.rdUnmapped4836 b) := rdWord_row b _
theorem Laws.EncodesItsRow.wrUnmapped4836 (b d : Byte) : Laws.EncodesItsRow.Statement (.wrUnmapped4836 b d) := wrWord_row b d _
theorem Laws.EncodesItsRow.rdUnmapped4837 (b : Byte) : Laws.EncodesItsRow.Statement (.rdUnmapped4837 b) := rdWord_row b _
theorem Laws.EncodesItsRow.wrUnmapped4837 (b d : Byte) : Laws.EncodesItsRow.Statement (.wrUnmapped4837 b d) := wrWord_row b d _
theorem Laws.EncodesItsRow.rdUnmapped4838 (b : Byte) : Laws.EncodesItsRow.Statement (.rdUnmapped4838 b) := rdWord_row b _
theorem Laws.EncodesItsRow.wrUnmapped4838 (b d : Byte) : Laws.EncodesItsRow.Statement (.wrUnmapped4838 b d) := wrWord_row b d _
theorem Laws.EncodesItsRow.rdUnmapped4839 (b : Byte) : Laws.EncodesItsRow.Statement (.rdUnmapped4839 b) := rdWord_row b _
theorem Laws.EncodesItsRow.wrUnmapped4839 (b d : Byte) : Laws.EncodesItsRow.Statement (.wrUnmapped4839 b d) := wrWord_row b d _
theorem Laws.EncodesItsRow.rdUnmapped483A (b : Byte) : Laws.EncodesItsRow.Statement (.rdUnmapped483A b) := rdWord_row b _
theorem Laws.EncodesItsRow.wrUnmapped483A (b d : Byte) : Laws.EncodesItsRow.Statement (.wrUnmapped483A b d) := wrWord_row b d _
theorem Laws.EncodesItsRow.rdUnmapped483B (b : Byte) : Laws.EncodesItsRow.Statement (.rdUnmapped483B b) := rdWord_row b _
theorem Laws.EncodesItsRow.wrUnmapped483B (b d : Byte) : Laws.EncodesItsRow.Statement (.wrUnmapped483B b d) := wrWord_row b d _
theorem Laws.EncodesItsRow.rdUnmapped483C (b : Byte) : Laws.EncodesItsRow.Statement (.rdUnmapped483C b) := rdWord_row b _
theorem Laws.EncodesItsRow.wrUnmapped483C (b d : Byte) : Laws.EncodesItsRow.Statement (.wrUnmapped483C b d) := wrWord_row b d _
theorem Laws.EncodesItsRow.rdUnmapped483D (b : Byte) : Laws.EncodesItsRow.Statement (.rdUnmapped483D b) := rdWord_row b _
theorem Laws.EncodesItsRow.wrUnmapped483D (b d : Byte) : Laws.EncodesItsRow.Statement (.wrUnmapped483D b d) := wrWord_row b d _
theorem Laws.EncodesItsRow.rdUnmapped483E (b : Byte) : Laws.EncodesItsRow.Statement (.rdUnmapped483E b) := rdWord_row b _
theorem Laws.EncodesItsRow.wrUnmapped483E (b d : Byte) : Laws.EncodesItsRow.Statement (.wrUnmapped483E b d) := wrWord_row b d _
theorem Laws.EncodesItsRow.rdUnmapped483F (b : Byte) : Laws.EncodesItsRow.Statement (.rdUnmapped483F b) := rdWord_row b _
theorem Laws.EncodesItsRow.wrUnmapped483F (b d : Byte) : Laws.EncodesItsRow.Statement (.wrUnmapped483F b d) := wrWord_row b d _
theorem Laws.EncodesItsRow.tick : Laws.EncodesItsRow.Statement .tick := by unfold Laws.EncodesItsRow.Statement; decide
theorem Laws.EncodesItsRow.winrd (a : Addr24) : Laws.EncodesItsRow.Statement (.winrd a) := eventWord_class 0b011#3 a 0 0xFF#8
theorem Laws.EncodesItsRow.winwr (a : Addr24) (d : Byte) : Laws.EncodesItsRow.Statement (.winwr a d) :=
  (eventWord_class 0b100#3 a d 0x00#8).trans (by rw [BitVec.and_zero]; rfl)
theorem Laws.EncodesItsRow.rdOutOfRange (a : Addr24) : Laws.EncodesItsRow.Statement (.rdOutOfRange a) := eventWord_class 0b000#3 a 0 0xFF#8
theorem Laws.EncodesItsRow.wrOutOfRange (a : Addr24) (d : Byte) : Laws.EncodesItsRow.Statement (.wrOutOfRange a d) :=
  (eventWord_class 0b001#3 a d 0x00#8).trans (by rw [BitVec.and_zero]; rfl)

end Sys2Proof
end

