-- ==== Sys2Proof/Tests/Slice0.lean ====
section
/-! SUPPORT. Tests. Expected values come from the spec: words from 30_encoding.md R140, R145, R146, results from the
vectors of 95_test_vectors.md, named in each test; the sample parameters are that file's section 0. Last, for every
statement of Obligations.lean that has hypotheses, a witness that meets them. -/

namespace Sys2Proof.Tests

open Sys2Proof.Machine

/-! WellFormed: an ill-formed event for each check, and its boundaries -/

/-- 0x4800 and 0x4842 are inside the block (R143). -/
theorem test_wellFormed_refuses :
    ([Instr.rdOutOfRange 0x004800, .rdOutOfRange 0xFF4842, .wrOutOfRange 0x004800 0x12, .wrOutOfRange 0x7E4842 0x00].all
      fun i => !i.wellFormed) = true := by decide
/-- 0x47FF and 0x4843 are outside it. -/
theorem test_wellFormed_accepts :
    ([Instr.rdOutOfRange 0x0047FF, .rdOutOfRange 0xFF4843, .wrOutOfRange 0x0047FF 0x12, .wrOutOfRange 0x7E4843 0x00,
      .tick, .rdDdata 0xFF, .wrDidx 0x12 0xFF].all fun i => i.wellFormed) = true := by decide

/-! Decoding, row by row: the words are written from the table's match values, bits 31:24 and 7:0 set -/

/-- Each word decodes to its event, is the event's encoding, and is read as a table row. -/
def spells (rows : List (EventWord × Instr)) : Bool :=
  rows.all fun r => decide (decode r.1 = .ok r.2) && decide (encode r.2 = r.1) &&
    decide (decodeTableWord 40 r.1.toNat = some r.2)

/-- The decompression front-end: every read and write word (R140, R145). -/
theorem test_decode_decompression : spells [
    (0x0011480000#40, .rdDdata 0x11), (0x20224800A5#40, .wrDdata 0x22 0xA5), (0x0033480100#40, .rdDtbl0 0x33),
    (0x20444801EF#40, .wrDtbl0 0x44 0xEF), (0x0055480200#40, .rdDtbl1 0x55), (0x2066480239#40, .wrDtbl1 0x66 0x39),
    (0x0077480300#40, .rdDtbl2 0x77), (0x2088480383#40, .wrDtbl2 0x88 0x83), (0x0099480400#40, .rdDidx 0x99),
    (0x20AA4804CD#40, .wrDidx 0xAA 0xCD), (0x00BB480500#40, .rdDaux0 0xBB), (0x20CC480517#40, .wrDaux0 0xCC 0x17),
    (0x00DD480600#40, .rdDaux1 0xDD), (0x20EE480661#40, .wrDaux1 0xEE 0x61), (0x00FF480700#40, .rdDaux2 0xFF),
    (0x20104807AB#40, .wrDaux2 0x10 0xAB), (0x0021480800#40, .rdDaux3 0x21), (0x20324808F5#40, .wrDaux3 0x32 0xF5),
    (0x0043480900#40, .rdDlen0 0x43), (0x205448093F#40, .wrDlen0 0x54 0x3F), (0x0065480A00#40, .rdDlen1 0x65),
    (0x2076480A89#40, .wrDlen1 0x76 0x89), (0x0087480B00#40, .rdDaux4 0x87), (0x2098480BD3#40, .wrDaux4 0x98 0xD3),
    (0x00A9480C00#40, .rdDstat 0xA9), (0x20BA480C1D#40, .wrDstat 0xBA 0x1D)]
    = true := by decide

/-- The data port: every read and write word (R140, R145). -/
theorem test_decode_data_port : spells [
    (0x00CB481000#40, .rdPadata 0xCB), (0x20DC481067#40, .wrPadata 0xDC 0x67), (0x00ED481100#40, .rdPaadr0 0xED),
    (0x20FE4811B1#40, .wrPaadr0 0xFE 0xB1), (0x000F481200#40, .rdPaadr1 0x0F), (0x20204812FB#40, .wrPaadr1 0x20 0xFB),
    (0x0031481300#40, .rdPaadr2 0x31), (0x2042481345#40, .wrPaadr2 0x42 0x45), (0x0053481400#40, .rdPbinc0 0x53),
    (0x206448148F#40, .wrPbinc0 0x64 0x8F), (0x0075481500#40, .rdPbinc1 0x75), (0x20864815D9#40, .wrPbinc1 0x86 0xD9),
    (0x0097481600#40, .rdPbadr0 0x97), (0x20A8481623#40, .wrPbadr0 0xA8 0x23), (0x00B9481700#40, .rdPbadr1 0xB9),
    (0x20CA48176D#40, .wrPbadr1 0xCA 0x6D), (0x00DB481800#40, .rdPmode 0xDB), (0x20EC4818B7#40, .wrPmode 0xEC 0xB7),
    (0x00FD481900#40, .rdPbadr2 0xFD), (0x200E481901#40, .wrPbadr2 0x0E 0x01), (0x001F481A00#40, .rdPbdata 0x1F),
    (0x2030481A4B#40, .wrPbdata 0x30 0x4B)]
    = true := by decide

/-- The math unit: every read and write word (R140, R145). -/
theorem test_decode_math : spells [
    (0x0041482000#40, .rdMopa0 0x41), (0x2052482095#40, .wrMopa0 0x52 0x95), (0x0063482100#40, .rdMopa1 0x63),
    (0x20744821DF#40, .wrMopa1 0x74 0xDF), (0x0085482200#40, .rdMaux0 0x85), (0x2096482229#40, .wrMaux0 0x96 0x29),
    (0x00A7482300#40, .rdMaux1 0xA7), (0x20B8482373#40, .wrMaux1 0xB8 0x73), (0x00C9482400#40, .rdMopm0 0xC9),
    (0x20DA4824BD#40, .wrMopm0 0xDA 0xBD), (0x00EB482500#40, .rdMopm1 0xEB), (0x20FC482507#40, .wrMopm1 0xFC 0x07),
    (0x000D482600#40, .rdMopd0 0x0D), (0x201E482651#40, .wrMopd0 0x1E 0x51), (0x002F482700#40, .rdMopd1 0x2F),
    (0x204048279B#40, .wrMopd1 0x40 0x9B), (0x0051482800#40, .rdMres0 0x51), (0x20624828E5#40, .wrMres0 0x62 0xE5),
    (0x0073482900#40, .rdMres1 0x73), (0x208448292F#40, .wrMres1 0x84 0x2F), (0x0095482A00#40, .rdMres2 0x95),
    (0x20A6482A79#40, .wrMres2 0xA6 0x79), (0x00B7482B00#40, .rdMres3 0xB7), (0x20C8482BC3#40, .wrMres3 0xC8 0xC3),
    (0x00D9482C00#40, .rdMrem0 0xD9), (0x20EA482C0D#40, .wrMrem0 0xEA 0x0D), (0x00FB482D00#40, .rdMrem1 0xFB),
    (0x200C482D57#40, .wrMrem1 0x0C 0x57), (0x001D482E00#40, .rdMsign 0x1D), (0x202E482EA1#40, .wrMsign 0x2E 0xA1),
    (0x003F482F00#40, .rdMstat 0x3F), (0x2050482FEB#40, .wrMstat 0x50 0xEB)]
    = true := by decide

/-- The memory-mapping unit: every read and write word (R140, R145). -/
theorem test_decode_mmu : spells [
    (0x0061483000#40, .rdMmbank0 0x61), (0x2072483035#40, .wrMmbank0 0x72 0x35), (0x0083483100#40, .rdMmbank1 0x83),
    (0x209448317F#40, .wrMmbank1 0x94 0x7F), (0x00A5483200#40, .rdMmbank2 0xA5), (0x20B64832C9#40, .wrMmbank2 0xB6 0xC9),
    (0x00C7483300#40, .rdMmbank3 0xC7), (0x20D8483313#40, .wrMmbank3 0xD8 0x13), (0x00E9483400#40, .rdMmsize 0xE9),
    (0x20FA48345D#40, .wrMmsize 0xFA 0x5D)]
    = true := by decide

/-- The real-time clock: every read and write word (R140, R145). -/
theorem test_decode_rtc : spells [
    (0x000B484000#40, .rdRtcen 0x0B), (0x201C4840A7#40, .wrRtcen 0x1C 0xA7), (0x002D484100#40, .rdRtcdata 0x2D),
    (0x203E4841F1#40, .wrRtcdata 0x3E 0xF1), (0x004F484200#40, .rdRtcstat 0x4F), (0x206048423B#40, .wrRtcstat 0x60 0x3B)]
    = true := by decide

/-- The unmapped addresses: every read and write word (R140, R146). -/
theorem test_decode_unmapped : spells [
    (0x0071480D00#40, .rdUnmapped480D 0x71), (0x2082480D85#40, .wrUnmapped480D 0x82 0x85),
    (0x0093480E00#40, .rdUnmapped480E 0x93), (0x20A4480ECF#40, .wrUnmapped480E 0xA4 0xCF),
    (0x00B5480F00#40, .rdUnmapped480F 0xB5), (0x20C6480F19#40, .wrUnmapped480F 0xC6 0x19),
    (0x00D7481B00#40, .rdUnmapped481B 0xD7), (0x20E8481B63#40, .wrUnmapped481B 0xE8 0x63),
    (0x00F9481C00#40, .rdUnmapped481C 0xF9), (0x200A481CAD#40, .wrUnmapped481C 0x0A 0xAD),
    (0x001B481D00#40, .rdUnmapped481D 0x1B), (0x202C481DF7#40, .wrUnmapped481D 0x2C 0xF7),
    (0x003D481E00#40, .rdUnmapped481E 0x3D), (0x204E481E41#40, .wrUnmapped481E 0x4E 0x41),
    (0x005F481F00#40, .rdUnmapped481F 0x5F), (0x2070481F8B#40, .wrUnmapped481F 0x70 0x8B),
    (0x0081483500#40, .rdUnmapped4835 0x81), (0x20924835D5#40, .wrUnmapped4835 0x92 0xD5),
    (0x00A3483600#40, .rdUnmapped4836 0xA3), (0x20B448361F#40, .wrUnmapped4836 0xB4 0x1F),
    (0x00C5483700#40, .rdUnmapped4837 0xC5), (0x20D6483769#40, .wrUnmapped4837 0xD6 0x69),
    (0x00E7483800#40, .rdUnmapped4838 0xE7), (0x20F84838B3#40, .wrUnmapped4838 0xF8 0xB3),
    (0x0009483900#40, .rdUnmapped4839 0x09), (0x201A4839FD#40, .wrUnmapped4839 0x1A 0xFD),
    (0x002B483A00#40, .rdUnmapped483A 0x2B), (0x203C483A47#40, .wrUnmapped483A 0x3C 0x47),
    (0x004D483B00#40, .rdUnmapped483B 0x4D), (0x205E483B91#40, .wrUnmapped483B 0x5E 0x91),
    (0x006F483C00#40, .rdUnmapped483C 0x6F), (0x2080483CDB#40, .wrUnmapped483C 0x80 0xDB),
    (0x0091483D00#40, .rdUnmapped483D 0x91), (0x20A2483D25#40, .wrUnmapped483D 0xA2 0x25),
    (0x00B3483E00#40, .rdUnmapped483E 0xB3), (0x20C4483E6F#40, .wrUnmapped483E 0xC4 0x6F),
    (0x00D5483F00#40, .rdUnmapped483F 0xD5), (0x20E6483FB9#40, .wrUnmapped483F 0xE6 0xB9)]
    = true := by decide

/-- TICK, the windows and the addresses outside the block (R140, R172, R173). -/
theorem test_decode_other : spells [
    (0x4000000000#40, .tick), (0x60E1234500#40, .winrd 0xE12345), (0x80016010BB#40, .winwr 0x016010 0xBB),
    (0x0000484300#40, .rdOutOfRange 0x004843), (0x207E47FF21#40, .wrOutOfRange 0x7E47FF 0x21)] = true := by decide

/-- The reserved words (R144, vector TX9). -/
theorem test_decode_reserved :
    decode 0xA000480000#40 = .error .reservedClass ∧ decode 0xE000000000#40 = .error .reservedClass ∧
    decode 0x0100480000#40 = .error .nonzeroZ ∧ decode 0x0000480001#40 = .error .nonzeroData ∧
    decode 0x6000800080#40 = .error .nonzeroData ∧ decode 0x4000000001#40 = .error .nonzeroData ∧
    decode 0x4000000100#40 = .error .nonzeroAddress := by decide

/-! The sample parameters and states -/

/-- Section 0's image: 01:23:45, day 09, month 11, year 24, weekday 3. -/
def image : List Byte := [5, 4, 3, 2, 1, 0, 9, 0, 1, 1, 4, 2, 3, 0]

/-- Section 0's parameters. -/
def sample : Params where
  mulLatencyPred := 3
  divLatencyPred := 5
  rtcLatencyPred := 1
  hasRtc := true
  hasPromFixed := false
  promSize := 0x200000
  dromSize := 0x800000
  ramSize := 0x2000
  mirrorRaw := defaultMirror
  dromByte := fun p => BitVec.ofNat 8 p ^^^ BitVec.ofNat 8 (p / 0x10000)
  promByte := fun p => 0xA0 ^^^ BitVec.ofNat 8 p
  ramInit := fun _ => 0
  rtcImage := some image
  emptyDrom := fun _ _ => 0
  emptyProm := fun _ _ => 0
  decompNext := fun _ _ => 0x5A

/-- Section 0's start state. -/
def startChip : Chip := Chip.powerOn (some image)

/-- A state with some inputs queued. -/
def queued (inputs : List Input) : State := { chip := startChip, inbox := inputs, mdr := 0xEE, draw := 0, ret := none }

/-- The start state with another core. -/
def holding (c : Chip) : State := { chip := c, inbox := [], mdr := 0x3C, draw := 0, ret := none }

/-- What `f` says of an outcome's state; false of a stop. -/
def ends (r : Result) (f : State → Bool) : Bool :=
  match r with
  | .next t => f t
  | _ => false

/-- The data ROM as the sample machine reads it at a size mode. -/
def sampleRom (msize : BitVec 2) : Addr24 → Byte := dromRead sample 0 msize

/-! The dispatcher and the step (section 2.1) -/

/-- TX1, TX2: no behaviour, so `mdr`. -/
theorem test_open_bus : (ends (exec (.rdUnmapped480D 0) (holding startChip)) fun t => t.ret == some 0x3C) &&
    (ends (exec (.rdOutOfRange 0x004843) (holding startChip)) fun t => t.ret == some 0x3C) = true := by decide
/-- TX3: 0x7E4820 is folded to 0x4820. -/
theorem test_upper_bits : (ends (step (queued [.event 0x007E482000 0x3C])) fun t => t.ret == some 0x00) = true := by decide
/-- TX4: the write of 0x124821. -/
theorem test_upper_bits_write :
    (ends (step (queued [.event 0x2012482155 0xEE])) fun t => t.chip.math.mopA == 0x5500) = true := by decide
/-- TX5, TX6: the write masks of PMODE and MSIGN. -/
theorem test_write_masks : (ends (exec (.wrPmode 0 0xFF) (holding startChip)) fun t => t.chip.port.pmode == 3) &&
    (ends (exec (.wrMsign 0 0xFE) (holding startChip)) fun t => !t.chip.math.msign) = true := by decide
/-- TX9: refused. -/
theorem test_reserved_word :
    step (queued [.event 0xA000480000 0xEE]) = .refused (.reservedEncoding .reservedClass) := by rfl
/-- An event placed by withFetchWord is the next one run, as the first after reset. -/
theorem test_withFetchWord : ends (step (State.reset.withFetchWord 40 0x2000482055))
    (fun t => t.chip.math.mopA == 0x0055 && t.inbox == []) = true := by rfl

/-! The decompression front-end (section 2.2) -/

/-- S1: the descriptor at address 0. -/
theorem test_session_S1 : describeSession (sampleRom 0) { startChip.dec with dlen := 0x10 } =
    { mode := 0, offset := 0x010203, length := 0x10 } := by decide
/-- TC3: a descriptor that wraps at 2^24, and a length above 16 bits. -/
theorem test_session_TC3 :
    describeSession (sampleRom 0) { startChip.dec with dtbl := 0xFFFFFE, dlen := 0x8000 } =
      { mode := 1, offset := 0xF00001, length := 0x10000 } := by decide
/-- TC2: the index counts in fours, and the write sets the status flag. -/
theorem test_session_TC2 :
    startSession (sampleRom 0) 0x03 { startChip.dec with dtbl := 0x000100, dlen := 0x100 } =
      { startChip.dec with dtbl := 0x000100, dlen := 0x100, didx := 0x03, dstat := 0x80,
                           dlast := some { mode := 0, offset := 0x0D0E0F, length := 0x100 } } := by decide
/-- TC4: the counter wraps with no session. -/
theorem test_count_wraps : (countDown startChip.dec).dlen = 0xFFFF := by decide

/-! The data port (section 2.3) -/

/-- TA2, TA3: forward steps, with a carry and with the wrap. -/
theorem test_stepA_forward :
    (stepA (sampleRom 0) { startChip.port with curA := 0x1234FF, visA := 0xFD }).curA = 0x123500 ∧
    (stepA (sampleRom 0) { startChip.port with curA := 0x1234FF, visA := 0xFD }).visA = 0x02 ∧
    (stepA (sampleRom 0) { startChip.port with curA := 0xFFFFFF, visA := 0xF0 }).curA = 0 := by decide
/-- TA4: a backward step. -/
theorem test_stepA_backward :
    (stepA (sampleRom 0) { startChip.port with curA := 0x123501, pmode := 1 }).curA = 0x123500 := by decide
/-- TB2: one latch is not enough. -/
theorem test_tryIncB_one_latch :
    tryIncB (sampleRom 0) { startChip.port with curB := 0x050100, latLo := true } =
      { startChip.port with curB := 0x050100, latLo := true } := by decide
/-- TB3, TB6: the increment, forward and backward across 0. -/
theorem test_tryIncB_fires :
    tryIncB (sampleRom 0) { startChip.port with curB := 0x050100, incB := 0x0210, latLo := true, latHi := true } =
      { startChip.port with curB := 0x050310, visB := 0x15, incB := 0x0210 } ∧
    (tryIncB (sampleRom 0) { startChip.port with incB := 1, latLo := true, latHi := true, pmode := 2 }).curB = 0xFFFFFF := by
  decide
/-- TB4: the commit clears both latches. -/
theorem test_commit_clears :
    commitMode 0x02 { startChip.port with latLo := true, latHi := true } = { startChip.port with pmode := 2 } := by decide

/-! The math unit (section 2.4) -/

/-- TM1 to TM9. -/
theorem test_multiply :
    mulCompute 0x1234 0x5678 false = 0x06260060 ∧ mulCompute 0xFFFF 0xFFFF false = 0xFFFE0001 ∧
    mulCompute 0xFFFF 0xFFFF true = 0x00000001 ∧ mulCompute 0x8000 0x8000 true = 0x40000000 ∧
    mulCompute 0x8000 0x0001 true = 0xFFFF8000 ∧ mulCompute 0x7FFF 0x7FFF true = 0x3FFF0001 ∧
    mulCompute 0xFFFD 0x0007 true = 0xFFFFFFEB ∧ mulCompute 0xFFFD 0x0007 false = 0x0006FFEB ∧
    mulCompute 0x1234 0x0000 true = 0 := by decide
/-- TD1 to TD10. -/
theorem test_divide :
    ([(0x0064, 0x0007, false, 0x0000000E, 0x0002), (0xFFFF, 0x0010, false, 0x00000FFF, 0x000F),
      (0x1234, 0x0000, false, 0x0000FFFF, 0x1234), (0x0000, 0x0000, false, 0x0000FFFF, 0x0000),
      (0x8000, 0x0000, true, 0xFFFFFFFF, 0x8000), (0xFFF9, 0x0002, true, 0xFFFFFFFD, 0xFFFF),
      (0x0007, 0xFFFE, true, 0xFFFFFFFD, 0x0001), (0xFFF9, 0xFFFE, true, 0x00000003, 0xFFFF),
      (0x8000, 0xFFFF, true, 0x00008000, 0x0000), (0xFFF9, 0x0002, false, 0x00007FFC, 0x0001)].all
      fun (a, d, s, q, r) => decide (divQuotient a d s = q ∧ divRemainder a d s = r)) = true := by decide

/-- TL1's unit, both operations armed. -/
def bothArmed : Chip :=
  startChip.setMath (armDiv (divLatency sample) (armMul (mulLatency sample)
    { startChip.math with mopA := 10, mopM := 3, mopD := 3 }))

/-- TL1: after 4 TICKs the product, the divide still in flight. -/
theorem test_latency_TL1 : (advance true 4 bothArmed).math.mres = 30 ∧ (advance true 4 bothArmed).math.mrem = 0 ∧
    mstatByte (advance true 3 bothArmed).math = 0x80 ∧ (advance true 3 bothArmed).math.mres = 0 ∧
    mstatByte (advance true 4 bothArmed).math = 0x80 := by decide
/-- TL2: two more, the quotient and the remainder. -/
theorem test_latency_TL2 : (advance true 6 bothArmed).math.mres = 3 ∧ (advance true 6 bothArmed).math.mrem = 1 ∧
    mstatByte (advance true 6 bothArmed).math = 0x40 := by decide
/-- TL3: both complete in one TICK, and the divide wins. -/
theorem test_divide_wins :
    (tickChip true (bothArmed.setMath { bothArmed.math with mulWait := 1, divWait := 1 })).math.mres = 3 := by decide

/-! The windows (section 2.5) -/

/-- A core with these mapping registers. -/
def mapped (mmu : Mmu) : Chip := startChip.setMmu mmu

/-- TW1, TW3, TW4, TW6: the four windows, both shapes, the size mode and the window-1 fast path. -/
theorem test_window_reads :
    windowByte sample 0 0x42 startChip 0x008000 = 0x00 ∧ windowByte sample 0 0x42 startChip 0xC12345 = 0x44 ∧
    windowByte sample 0 0x42 (mapped { startChip.mmu with bank := #v[0, 0, 3, 0], msize := 3 }) 0xE12345 = 0x74 ∧
    windowByte sample 0 0x42 (mapped { startChip.mmu with bank := #v[0, 0, 3, 0] }) 0xE12345 = 0x44 ∧
    windowByte sample 0 0x42 (mapped { startChip.mmu with msize := 2, mfast1 := true }) 0xD00010 = 0xB0 ∧
    windowByte sample 0 0x42 (mapped { startChip.mmu with msize := 2, mfast1 := true }) 0x908000 = 0xA0 ∧
    windowByte sample 0 0x42 (mapped { startChip.mmu with bank := #v[0, 0, 0, 7], msize := 3 }) 0x3F8000 = 0x7F := by
  decide
/-- TW10: the window-0 fast path. -/
theorem test_window_fast0 :
    windowByte { sample with hasPromFixed := true } 0 0x42 startChip 0x808000 = 0xA0 ∧
    windowByte { sample with hasPromFixed := true } 0 0x42 startChip 0xC00001 = 0xA1 := by decide
/-- TW7, TW9: the RAM window disabled, and an address in no window. -/
theorem test_window_open : windowByte sample 0 0x42 startChip 0x006010 = 0x42 ∧
    windowByte sample 0 0x42 startChip 0x400000 = 0x42 ∧ windowStore sample startChip 0x006011 0xCC = [] := by decide
/-- TW8: two addresses of one SRAM cell; writing the launch's value takes the cell off the list. -/
theorem test_window_store :
    windowStore sample (mapped { startChip.mmu with ramEn := true }) 0x006010 0xAA = [(0x10, 0xAA)] ∧
    windowStore sample ((mapped { startChip.mmu with ramEn := true }).setRam [(0x10, 0xAA)]) 0x016010 0xBB = [(0x10, 0xBB)] ∧
    windowStore sample ((mapped { startChip.mmu with ramEn := true }).setRam [(0x10, 0xAA)]) 0x016010 0x00 = [] ∧
    windowByte sample 0 0x42 ((mapped { startChip.mmu with ramEn := true }).setRam [(0x10, 0xBB)]) 0x806010 = 0xBB := by
  decide
/-- TW4, TW8: the masks of the mapping registers. -/
theorem test_mmu_masks :
    (ends (exec (.wrMmbank1 0 0xFB) (holding startChip)) fun t => t.chip.mmu.bank[1] == 3) &&
    (ends (exec (.wrMmbank0 0 0x85) (holding startChip)) fun t => t.chip.mmu.bank[0] == 5 && t.chip.mmu.ramEn) = true := by
  decide

/-! The real-time clock (section 2.6) -/

/-- The RTC after written bytes, enabled first. -/
def wrote (bytes : List Byte) : Rtc := bytes.foldl (fun r d => writeRtcData d r) (writeRtcEn 0x01 startChip.rtc)

/-- S2: read mode, and the first and the sixth read. -/
theorem test_rtc_read_mode : rtcDataByte (wrote [0x0C, 0x00]) = 0x05 ∧
    (afterRtcDataRead 2)^[5] (wrote [0x0C, 0x00]) =
      { wrote [0x0C, 0x00] with cur := 5, busy := true, waitT := 2 } ∧
    rtcStatusByte ((afterRtcDataRead 2)^[5] (wrote [0x0C, 0x00])) = 0x80 := by decide
/-- TR3, TR4: writes in read mode are ignored; disabling returns to Idle. -/
theorem test_rtc_leave_read_mode : writeRtcData 0x05 (wrote [0x0C, 0x00]) = wrote [0x0C, 0x00] ∧
    writeRtcEn 0x00 (wrote [0x0C, 0x00]) = { wrote [0x0C, 0x00] with en := false, state := .idle } := by decide
/-- TR5, TR6, TR8: another command, the write mode, and the lost-power flag. -/
theorem test_rtc_write_mode : wrote [0x07, 0x02] = { wrote [] with cmd := 7, cur := 2 } ∧
    wrote [0x03, 0x00, 0x10, 0x23, 0x09] = { wrote [] with
      cmd := 3, cur := 3, state := .writeMode, nib := #v[0, 3, 9, 2, 1, 0, 9, 0, 1, 1, 4, 2, 3] } ∧
    (wrote [0x03, 0x0D, 0x01]).lost = true ∧ (wrote [0x03, 0x0D, 0x01, 0x05]).cur = 15 := by decide
/-- TR7: addresses 12 to 15 and the wrap. -/
theorem test_rtc_high_addresses :
    (List.range 5).map (fun k => rtcDataByte ((afterRtcDataRead 2)^[k] (wrote [0x0C, 0x0C]))) = [3, 0, 0, 0, 5] ∧
    ((afterRtcDataRead 2)^[5] (wrote [0x0C, 0x0C])).cur = 1 := by decide
/-- TR1: a disabled RTC is inert. -/
theorem test_rtc_disabled : rtcDataByte startChip.rtc = 0 ∧ rtcStatusByte { startChip.rtc with irq := 1 } = 0 ∧
    writeRtcData 0x0C startChip.rtc = startChip.rtc ∧
    afterRtcStatRead { startChip.rtc with irq := 1 } = { startChip.rtc with irq := 1 } := by decide

/-! The clock loop, reset and power-on (section 2.7, S3) -/

/-- TK1: one TICK of a quiet core. -/
theorem test_tick : tickChip true startChip =
    { startChip with cycles := 1, rtc := { startChip.rtc with cnt := 1 } } := by decide
/-- S3 at 32768 and 65536, at 60 seconds and at 1440. -/
theorem test_rtc_events :
    (rtcCounterStep true { startChip.rtc with cnt := 0x7FFF }).irq = 0b00001 ∧
    (rtcCounterStep true { startChip.rtc with cnt := 0x7FFE }).irq = 0 ∧
    (rtcCounterStep true { startChip.rtc with cnt := 0xFFFF }).irq = 0b00111 ∧
    (rtcCounterStep true { startChip.rtc with cnt := 0xFFFF, sec := 59 }).irq = 0b01111 ∧
    rtcCounterStep true { startChip.rtc with cnt := 0xFFFF, sec := 1439 } = { startChip.rtc with irq := 0b11111 } := by
  decide
/-- TR9: no RTC, nothing counts. -/
theorem test_no_rtc : rtcCounterStep false { startChip.rtc with cnt := 0xFFFF } = { startChip.rtc with cnt := 0xFFFF } := by
  decide
/-- TZ1, TZ2: a cold start, and a start with an invalid image. -/
theorem test_cold_start : (Chip.powerOn none).rtc.lost = true ∧
    Chip.powerOn (some [5, 5, 5, 5, 5, 5, 5, 5, 5, 5, 5, 5, 5, 2]) = Chip.powerOn none := by decide
/-- Section 0: a start with the image, and R473's image of it. -/
theorem test_power_on_image : startChip.rtc.nib = #v[5, 4, 3, 2, 1, 0, 9, 0, 1, 1, 4, 2, 3] ∧
    startChip.rtc.lost = false ∧ rtcImageOf startChip.rtc = image := by decide
/-- R470: a reset keeps the cells and the SRAM. -/
theorem test_reset_keeps : ends (step { queued [.reset] with chip.ram := [(1, 2)], chip.cycles := 7, chip.dec.dstat := 0x80 })
    (fun t => t.chip == { startChip with ram := [(1, 2)] }) = true := by decide

/-! Witnesses: for each statement with hypotheses, a state and operands that meet them -/

theorem witness_DecodeEncodeRoundTrip : (Instr.rdOutOfRange 0x004843).wellFormed = true ∧
    (Instr.wrOutOfRange 0x7E47FF 0x12).wellFormed = true ∧ (Instr.wrDidx 0x12 0x03).wellFormed = true := by decide

theorem witness_EncodeDecodeRoundTrip : decode 0x2012480403#40 = .ok (.wrDidx 0x12 0x03) := by decide

/-- Each reserved shape, and a word that is none of them. -/
theorem witness_StepRefusesExactlyTheReservedWords :
    (queued [.event 0xA000000000 0xEE]).inbox = .event 0xA000000000#40 0xEE :: [] ∧
    5 ≤ ((0xA000000000#40).extractLsb' 37 3).toNat ∧ (0x0100000000#40).extractLsb' 32 5 ≠ 0 ∧
    ((0x0000480001#40).extractLsb' 37 3).toNat = 0 ∧ (0x0000480001#40).extractLsb' 0 8 ≠ 0 ∧
    ((0x6000000001#40).extractLsb' 37 3).toNat = 3 ∧ (0x6000000001#40).extractLsb' 0 8 ≠ 0 ∧
    ((0x4000000100#40).extractLsb' 37 3).toNat = 2 ∧ (0x4000000100#40).extractLsb' 0 32 ≠ 0 ∧
    ((0x8000000001#40).extractLsb' 37 3).toNat = 4 ∧ (0x8000000001#40).extractLsb' 32 5 = 0 := by decide

theorem witness_StepRunsTheDecodedEvent :
    (queued [.event 0x2000482507 0xEE, .reset]).inbox = .event 0x2000482507#40 0xEE :: [.reset] ∧
    decode 0x2000482507#40 = .ok (.wrMopm1 0 0x07) := by decide

theorem witness_StepPausesWithNothingQueued : (queued []).inbox = [] := by decide

/-- Every range of the statement at both ends, and a queued read and write. -/
theorem witness_AddressesWithoutBehaviour :
    ([0x0000, 0x47FF, 0x4843, 0xFFFF, 0x480D, 0x480F, 0x481B, 0x481F, 0x4835, 0x483F].all fun a : Nat =>
      decide (a < 0x4800 ∨ 0x4842 < a ∨ (0x480D ≤ a ∧ a ≤ 0x480F) ∨ (0x481B ≤ a ∧ a ≤ 0x481F) ∨
        (0x4835 ≤ a ∧ a ≤ 0x483F))) = true ∧
    (queued [.event (0b000#3 ++ 0#5 ++ 0x12#8 ++ 0x483F#16 ++ 0#8) 0x3C]).inbox =
      .event (0b000#3 ++ 0#5 ++ 0x12#8 ++ 0x483F#16 ++ 0#8) 0x3C :: [] ∧
    (queued [.event (0b001#3 ++ 0#5 ++ 0x12#8 ++ 0x47FF#16 ++ 0x55#8) 0x3C]).inbox =
      .event (0b001#3 ++ 0#5 ++ 0x12#8 ++ 0x47FF#16 ++ 0x55#8) 0x3C :: [] := by decide

theorem witness_DstatReadClearsBusy : (0x80#8 &&& 0x7F) = 0 ∧
    ∃ t, exec (.rdDstat 0) (holding { startChip with dec.dstat := 0x80 }) = .next t := ⟨by decide, _, rfl⟩

theorem witness_ReadsOfPadataMoveCursorAByTheirNumber :
    (queued (List.replicate 3 (.event (0b000#3 ++ 0#5 ++ 0#8 ++ 0x4810#16 ++ 0#8) 0xEE) ++ [.reset])).inbox =
      List.replicate 3 (.event (0b000#3 ++ 0#5 ++ 0#8 ++ 0x4810#16 ++ 0#8) 0xEE) ++ [.reset] := rfl

/-- A read and a write of PBDATA queued with both latches set. -/
theorem witness_OneIncrementPerDoubleWrite :
    ({ queued ([true, false].map (fun r =>
        if r then Input.event (0b000#3 ++ 0#5 ++ 0#8 ++ 0x481A#16 ++ 0#8) 0xEE
        else Input.event (0b001#3 ++ 0#5 ++ 0#8 ++ 0x481A#16 ++ 0x99#8) 0xEE) ++ []) with
      chip.port.latLo := true, chip.port.latHi := true } : State).inbox =
      [true, false].map (fun r =>
        if r then Input.event (0b000#3 ++ 0#5 ++ 0#8 ++ 0x481A#16 ++ 0#8) 0xEE
        else Input.event (0b001#3 ++ 0#5 ++ 0#8 ++ 0x481A#16 ++ 0x99#8) 0xEE) ++ [] := rfl

/-- A cursor-A event on states that differ in cursor B, and a cursor-B event on states that differ in cursor A. -/
theorem witness_CursorsAreIndependent :
    (∃ t t', exec (.rdPadata 0) (holding startChip) = .next t ∧
      exec (.rdPadata 0) (holding { startChip with port.curB := 5, port.pmode := 2 }) = .next t' ∧
      (2#2).getLsbD 0 = (startChip.port.pmode).getLsbD 0) ∧
    (∃ t t', exec (.wrPbdata 0 1) (holding { startChip with port.latLo := true, port.latHi := true }) = .next t ∧
      exec (.wrPbdata 0 1) (holding { startChip with port.latLo := true, port.latHi := true, port.curA := 5,
                                                     port.pmode := 1 }) = .next t' ∧
      (1#2).getLsbD 1 = (startChip.port.pmode).getLsbD 1) :=
  ⟨⟨_, _, rfl, rfl, by decide⟩, ⟨_, _, rfl, rfl, by decide⟩⟩

/-- An event of each list. -/
theorem witness_EventsWithoutBehaviour : Instr.rdOutOfRange 0x004843 ∈ [Instr.rdUnmapped480D 0, .rdOutOfRange 0x004843] ∧
    Instr.wrOutOfRange 0x004843 1 ∈ [Instr.wrUnmapped480D 0 1, .wrOutOfRange 0x004843 1] := by decide

theorem witness_ReadOnlyWritesChangeNothing : Instr.wrRtcstat 0 1 ∈ [Instr.wrDdata 0 1, .wrRtcstat 0 1] := by decide

theorem witness_PlainReadsRepeat : Instr.rdRtcen 0 ∈ [Instr.rdDtbl0 0, .rdRtcen 0] := by decide

/-- Both sign modes. -/
theorem witness_MultiplyArms : (holding startChip).chip.math.msign = false ∧
    (holding { startChip with math.msign := true }).chip.math.msign = true := by decide

/-- Both sign modes, a zero and a nonzero divisor. -/
theorem witness_DivideArms : (holding startChip).chip.math.msign = false ∧
    (holding { startChip with math.msign := true }).chip.math.msign = true ∧
    ((0x00#8 ++ (startChip.math.mopD).extractLsb' 0 8 : BitVec 16) = 0) ∧
    ((0x80#8 ++ (startChip.math.mopD).extractLsb' 0 8 : BitVec 16) ≠ 0) := by decide

/-- Neither done, each alone, both with either last, and both in one TICK, at the last TICK. -/
theorem witness_MathUnitAfterTicks : bothArmed.math.mulWait = 4 ∧ bothArmed.math.divWait = 6 ∧
    ¬ (4 ≤ 3) ∧ 4 ≤ 4 ∧ ¬ (6 ≤ 4) ∧ 6 ≤ 6 ∧
    (armMul 7 bothArmed.math).mulWait = 7 ∧ (armMul 6 bothArmed.math).mulWait = bothArmed.math.divWait := by decide

theorem witness_ResultsVisibleExactlyAfterLatency :
    startChip.math.divWait = 0 ∧ startChip.math.mulWait = 0 ∧
    (queued (.event (0b001#3 ++ 0#5 ++ 0#8 ++ 0x4825#16 ++ 0x00#8) 0xEE ::
        (List.replicate 4 (.event 0x4000000000#40 0xEE) ++ []))).inbox =
      .event (0b001#3 ++ 0#5 ++ 0#8 ++ 0x4825#16 ++ 0x00#8) 0xEE ::
        (List.replicate 4 (.event 0x4000000000#40 0xEE) ++ []) ∧
    (queued (.event (0b001#3 ++ 0#5 ++ 0#8 ++ 0x4827#16 ++ 0x00#8) 0xEE ::
        (List.replicate 4 (.event 0x4000000000#40 0xEE) ++ []))).inbox =
      .event (0b001#3 ++ 0#5 ++ 0#8 ++ 0x4827#16 ++ 0x00#8) 0xEE ::
        (List.replicate 4 (.event 0x4000000000#40 0xEE) ++ []) := ⟨rfl, rfl, rfl, rfl⟩

/-- Another event with a timer at 1, and a TICK with no timer at 1. -/
theorem witness_OnlyCompletionWritesTheResultLatch :
    (∃ t, exec (.wrMopa0 0 1) (holding { startChip with math.mulWait := 1 }) = .next t) ∧
    (∃ t, exec .tick (holding bothArmed) = .next t ∧ bothArmed.math.mulWait ≠ 1 ∧ bothArmed.math.divWait ≠ 1) :=
  ⟨⟨_, rfl⟩, _, rfl, by decide, by decide⟩

/-- Each window at a first and a last address of its shapes, the RAM window at both ends, and no window. -/
theorem witness_WindowReadBytes :
    windowOf 0x008000 = some 0 ∧ windowOf 0x8FFFFF = some 0 ∧ windowOf 0xC00000 = some 0 ∧
    windowOf 0x108000 = some 1 ∧ windowOf 0xDFFFFF = some 1 ∧ windowOf 0x208000 = some 2 ∧ windowOf 0xEFFFFF = some 2 ∧
    windowOf 0x308000 = some 3 ∧ windowOf 0xFFFFFF = some 3 ∧
    (windowOf 0x006000 = none ∧ inRamWindow 0x006000 = true) ∧ (windowOf 0xBF7FFF = none ∧ inRamWindow 0xBF7FFF = true) ∧
    (windowOf 0x005FFF = none ∧ inRamWindow 0x005FFF = false) ∧
    (windowOf 0x40FFFF = none ∧ inRamWindow 0x40FFFF = false) := by decide

/-- A stored byte at the first and the last SRAM address, on a canonical list, and an address that stores nothing. -/
theorem witness_WindowWriteStoresOneByte :
    ramCell sample { startChip.mmu with ramEn := true } 0x006000 = some 0 ∧
    ramCell sample { startChip.mmu with ramEn := true } 0x007FFF = some 0x1FFF ∧
    Memory.wf sample.ramInit [(0x10, 0xAA)] = true ∧ ramCell sample startChip.mmu 0x006000 = none := by decide

/-- Two addresses that agree in their low 20 bits, the stores full and empty, and a `mirror` inside its law at the last
offset. -/
theorem witness_TranslationStaysInsideTheStores : sample.dromSize ≠ 0 ∧ sample.promSize ≠ 0 ∧
    ({ sample with dromSize := 0, promSize := 0 } : Params).dromSize = 0 ∧
    ({ sample with dromSize := 0, promSize := 0 } : Params).promSize = 0 ∧
    sample.mirrorRaw 0x1FFFFF 0x200000 < 0x200000 ∧
    ramCell sample { startChip.mmu with ramEn := true } 0x007FFF = some 0x1FFF ∧
    (0x712345#24).toNat % 2 ^ (20 + (0#2).toNat) = (0x012345#24).toNat % 2 ^ (20 + (0#2).toNat) := by decide

/-- A size that is no power of two, one that is, and an offset inside the store. -/
theorem witness_DefaultMirrorHasTheLaw : 0xFFFFFF < 2 ^ 24 ∧ 0 < 0x300000 ∧ 0x2FFFFF < 0x300000 ∧
    0x200000 = 2 ^ 21 ∧ defaultMirror 0x2FFFFF 0x300000 = 0x2FFFFF ∧ defaultMirror 0x312345 0x300000 = 0x212345 := by decide

/-- Each clause at its boundary addresses. -/
theorem witness_NibbleWriteThenRead : (0#4).toNat < 13 ∧ (12#4).toNat < 13 ∧ (12#4).toNat ≤ 12 ∧ 14 ≤ (14#4).toNat ∧ 14 ≤ (15#4).toNat ∧
    (0#4) ≠ 13#4 := by decide

/-- A whole clock, from address 0 to address 12. -/
theorem witness_StoredNibblesReadBack : (wrote []).en = true ∧ (wrote []).state = .idle ∧
    (0#4).toNat + [(1 : Nibble), 2, 3, 4, 5, 6, 7, 8, 9, 10, 11, 12, 13].length ≤ 13 := by decide

/-- Another event, a disabled RTC, a protocol not in write mode, and the cursor at 12, 13 and 14. -/
theorem witness_ClockMemoryChangesOnlyInWriteMode :
    (∃ t, exec (.rdRtcdata 0) (holding startChip) = .next t) ∧
    (∃ t, exec (.wrRtcdata 0 5) (holding startChip) = .next t ∧ startChip.rtc.en = false) ∧
    (wrote [0x0C, 0x00]).state ≠ .writeMode ∧
    (∃ t, exec (.wrRtcdata 0 5) (holding (startChip.setRtc (wrote [0x03, 0x0C]))) = .next t ∧
      (wrote [0x03, 0x0C]).cur ≠ 13) ∧
    (∃ t, exec (.wrRtcdata 0 5) (holding (startChip.setRtc (wrote [0x03, 0x0D]))) = .next t ∧
      12 < (wrote [0x03, 0x0D]).cur.toNat) :=
  ⟨⟨_, rfl⟩, ⟨_, rfl, by decide⟩, by decide, ⟨_, rfl, by decide⟩, ⟨_, rfl, by decide⟩⟩

/-- Both data modes, left by disabling and kept otherwise, and Idle. -/
theorem witness_DataModesAreLeftOnlyByDisabling :
    (wrote [0x0C, 0x00]).state = .readMode ∧ (wrote [0x03, 0x00]).state = .writeMode ∧ (wrote []).state = .idle ∧
    (∃ t, exec (.wrRtcen 0 0x00) (holding (startChip.setRtc (wrote [0x03, 0x00]))) = .next t) ∧
    (∃ t, exec (.wrRtcen 0 0x01) (holding (startChip.setRtc (wrote [0x0C, 0x00]))) = .next t) :=
  ⟨by decide, by decide, by decide, ⟨_, rfl⟩, ⟨_, rfl⟩⟩

/-- A set flag, another event, and a TICK; a status read is the first clause's exception. -/
theorem witness_InterruptFlagsStaySetUntilRead :
    (∃ t, exec .tick (holding { startChip with rtc.irq := 0b10101 }) = .next t ∧ (0b10101#5).getLsbD 4 = true) ∧
    (∃ t, exec (.rdRtcstat 0) (holding { startChip with rtc.irq := 0b10101 }) = .next t) :=
  ⟨⟨_, rfl, by decide⟩, _, rfl⟩

theorem witness_RtcEventsAfterTicks : startChip.rtc.cnt = 0 ∧ startChip.rtc.sec = 0 ∧ startChip.rtc.irq = 0 := by decide

theorem witness_RunOfTicksIsAdvance :
    (queued (List.replicate 3 (.event 0x4000000000#40 0xEE) ++ [.reset])).inbox =
      List.replicate 3 (.event 0x4000000000#40 0xEE) ++ [.reset] := rfl

theorem witness_ResetTable : (queued [.reset, .event 0x4000000000 0xEE]).inbox = .reset :: [.event 0x4000000000 0xEE] := rfl

/-- A valid image at its extremes, and one of each kind that is not. -/
theorem witness_PowerOnLoadsTheImage :
    imageValid [15, 15, 15, 15, 15, 15, 15, 15, 15, 15, 15, 15, 15, 1] = true ∧ imageValid image = true ∧
    imageValid [5, 5, 5, 5, 5, 5, 5, 5, 5, 5, 5, 5, 5, 2] = false ∧ imageValid [1] = false ∧
    imageValid [0x10, 0, 0, 0, 0, 0, 0, 0, 0, 0, 0, 0, 0, 0] = false := by decide

/-- A core that is legal and not as after reset, whatever the parameters are. -/
def busyChip : Chip := { startChip with math.mulWait := 1, math.mulPend := 6, dec.dstat := 0x80, cycles := 5 }

theorem busyChip_legal : busyChip.Legal Config.params where
  dstat_reserved := by decide
  session_length := by intro x hx; cases hx
  mulWait_le := Nat.le_add_left 1 _
  divWait_le := Nat.zero_le _
  rtcWait_le := Nat.zero_le _
  busy_iff := by decide
  sec_lt := by decide
  disabled_idle := by decide
  ram_wf := rfl
  ram_lt := by intro x hx; cases hx
  no_rtc := fun _ => rfl

theorem witness_StepKeepsTheStateLegal :
    ({ queued [.event 0x4000000000 0xEE, .restore busyChip] with chip := busyChip } : State).Legal ∧
    ∃ t, step { queued [.event 0x4000000000 0xEE, .restore busyChip] with chip := busyChip } = .next t := by
  refine ⟨⟨busyChip_legal, ?_⟩, _, rfl⟩
  intro c hc
  have : c = busyChip := by simpa [queued] using hc
  exact this ▸ busyChip_legal

/-- A run of one step that answers, and one that is refused. -/
theorem witness_RestoredSnapshotBehavesTheSame :
    (∃ t, Host.Core.run Sys2Proof.core 1 (queued [.event 0x0000482000 0x3C]) = .next t) ∧
    (queued [.event 0x0000482000 0x3C]).inbox ≠ [] ∧
    (queued (.restore startChip :: [.event 0x0000482000 0x3C])).inbox =
      .restore (queued [.event 0x0000482000 0x3C]).chip :: (queued [.event 0x0000482000 0x3C]).inbox ∧
    Host.Core.run Sys2Proof.core 1 (queued [.event 0xA000480000 0xEE]) =
      .refused (.reservedEncoding .reservedClass) :=
  ⟨⟨_, rfl⟩, by decide, rfl, rfl⟩

end Sys2Proof.Tests
end

section
/-! SUPPORT. The layer under the statements about the state (10_state.md): what a step can do to the core, said once,
and the frames of the timers and of the RTC. -/

namespace Sys2Proof.Machine

/-! The frames of the timers (46_clock_loop.md R411 to R413) -/

@[simp] theorem mulTimerStep_mulWait (m : MathUnit) : (mulTimerStep m).mulWait = m.mulWait - 1 := by
  unfold mulTimerStep mulComplete
  split <;> simp [*]

@[simp] theorem mulTimerStep_divWait (m : MathUnit) : (mulTimerStep m).divWait = m.divWait := by
  unfold mulTimerStep mulComplete
  split <;> rfl

@[simp] theorem mulTimerStep_mrem (m : MathUnit) : (mulTimerStep m).mrem = m.mrem := by
  unfold mulTimerStep mulComplete
  split <;> rfl

theorem mulTimerStep_mres (m : MathUnit) (h : m.mulWait ≠ 1) : (mulTimerStep m).mres = m.mres := by
  unfold mulTimerStep
  split
  · rfl
  · contradiction
  · rfl

@[simp] theorem divTimerStep_divWait (m : MathUnit) : (divTimerStep m).divWait = m.divWait - 1 := by
  unfold divTimerStep divComplete
  split <;> simp [*]

@[simp] theorem divTimerStep_mulWait (m : MathUnit) : (divTimerStep m).mulWait = m.mulWait := by
  unfold divTimerStep divComplete
  split <;> rfl

theorem divTimerStep_results (m : MathUnit) (h : m.divWait ≠ 1) :
    (divTimerStep m).mres = m.mres ∧ (divTimerStep m).mrem = m.mrem := by
  unfold divTimerStep
  split
  · exact ⟨rfl, rfl⟩
  · contradiction
  · exact ⟨rfl, rfl⟩

/-- A TICK that ends no math timer leaves the result latch and the remainder (R50, R326). -/
theorem tickChip_results (hasRtc : Bool) (c : Chip) (hmul : c.math.mulWait ≠ 1) (hdiv : c.math.divWait ≠ 1) :
    (tickChip hasRtc c).math.mres = c.math.mres ∧ (tickChip hasRtc c).math.mrem = c.math.mrem := by
  obtain ⟨hres, hrem⟩ := divTimerStep_results (mulTimerStep c.math) (by simpa using hdiv)
  rw [tickChip_eq]
  exact ⟨hres.trans (mulTimerStep_mres c.math hmul), hrem.trans (mulTimerStep_mrem c.math)⟩

/-! The frame of the RTC's command protocol (45_rtc.md R374, R376 to R380) -/

/-- A nibble write reaches the battery-backed cells only. -/
theorem nibWrite_frame (r : Rtc) (n v : Nibble) :
    ∃ nib lost, nibWrite r n v = { r with nib := nib, lost := lost } := by
  unfold nibWrite
  split
  · exact ⟨_, _, rfl⟩
  · split <;> exact ⟨_, _, rfl⟩

/-- The protocol reaches neither the enable bit, nor the busy flag and its timer, nor the clock. -/
theorem protocolWrite_frame (v : Nibble) (r : Rtc) :
    ∃ nib lost state cmd cur, protocolWrite v r =
      { r with nib := nib, lost := lost, state := state, cmd := cmd, cur := cur } := by
  unfold protocolWrite
  split
  case h_1 | h_2 | h_3 => exact ⟨_, _, _, _, _, rfl⟩
  case h_4 =>
    obtain ⟨nib, lost, h⟩ := nibWrite_frame r r.cur v
    exact ⟨nib, lost, _, _, _, by rw [h]⟩

/-! What a step can do -/

/-- What an access of an RTC register does to an RTC that is present (R372, R376, R381, R384). -/
inductive RtcAccess : (Rtc → Rtc) → Prop
  | enable (d8 : Byte) : RtcAccess (writeRtcEn d8)
  | dataWrite (d8 : Byte) : RtcAccess (writeRtcData d8)
  | dataRead : RtcAccess (afterRtcDataRead (rtcLatency Config.params))
  | statusRead : RtcAccess afterRtcStatRead

/-- What a host access, an event that is no TICK, can do to the core `c`: at most one unit changes. -/
inductive AccessEffect (c : Chip) : Chip → Prop
  | unchanged : AccessEffect c c
  | decompRegs (dtbl : Addr24) (daux : Vector Byte 5) (dlen : BitVec 16) :
      AccessEffect c (c.setDec { c.dec with dtbl := dtbl, daux := daux, dlen := dlen })
  | session (rom : Addr24 → Byte) (d8 : Byte) : AccessEffect c (c.setDec (startSession rom d8 c.dec))
  | decompStatusRead : AccessEffect c (c.setDec { c.dec with dstat := dstatAfterRead c.dec.dstat })
  | port (u : DataPort) : AccessEffect c (c.setPort u)
  | mathRegs (mopA maux mopM mopD : BitVec 16) (msign : Bool) :
      AccessEffect c
        (c.setMath { c.math with mopA := mopA, maux := maux, mopM := mopM, mopD := mopD, msign := msign })
  | multiply (mopM : BitVec 16) :
      AccessEffect c (c.setMath (armMul (mulLatency Config.params) { c.math with mopM := mopM }))
  | divide (mopD : BitVec 16) :
      AccessEffect c (c.setMath (armDiv (divLatency Config.params) { c.math with mopD := mopD }))
  | mmu (u : Mmu) : AccessEffect c (c.setMmu u)
  | sram (a24 : Addr24) (d8 : Byte) : AccessEffect c (c.setRam (windowStore Config.params c a24 d8))
  | rtc (f : Rtc → Rtc) (hf : RtcAccess f) :
      AccessEffect c (c.setRtc (whenPresent Config.params.hasRtc f c.rtc))

/-- Every event that is no TICK answers a next state: the core with the effect of an access, the byte it returns, and
everything else as it was. -/
theorem exec_access (i : Instr) (s : State) (hi : i ≠ .tick) :
    ∃ c r, exec i s = .next { s with chip := c, ret := r } ∧ AccessEffect s.chip c := by
  cases i with
  | tick => exact absurd rfl hi
  | rdDdata | wrDtbl0 | wrDtbl1 | wrDtbl2 | wrDaux0 | wrDaux1 | wrDaux2 | wrDaux3 | wrDaux4 | wrDlen0 | wrDlen1 =>
    exact ⟨_, _, rfl, .decompRegs _ _ _⟩
  | wrDidx => exact ⟨_, _, rfl, .session _ _⟩
  | rdDstat => exact ⟨_, _, rfl, .decompStatusRead⟩
  | rdPadata | wrPadata | wrPaadr0 | wrPaadr1 | wrPaadr2 | wrPbinc0 | wrPbinc1 | wrPbadr0 | wrPbadr1 | wrPbadr2
  | wrPmode | rdPbdata | wrPbdata =>
    exact ⟨_, _, rfl, .port _⟩
  | wrMopa0 | wrMopa1 | wrMaux0 | wrMaux1 | wrMopm0 | wrMopd0 | wrMsign =>
    exact ⟨_, _, rfl, .mathRegs _ _ _ _ _⟩
  | wrMopm1 => exact ⟨_, _, rfl, .multiply _⟩
  | wrMopd1 => exact ⟨_, _, rfl, .divide _⟩
  | wrMmbank0 | wrMmbank1 | wrMmbank2 | wrMmbank3 | wrMmsize => exact ⟨_, _, rfl, .mmu _⟩
  | winwr => exact ⟨_, _, rfl, .sram _ _⟩
  | wrRtcen => exact ⟨_, _, rfl, .rtc _ (.enable _)⟩
  | wrRtcdata => exact ⟨_, _, rfl, .rtc _ (.dataWrite _)⟩
  | rdRtcdata => exact ⟨_, _, rfl, .rtc _ .dataRead⟩
  | rdRtcstat => exact ⟨_, _, rfl, .rtc _ .statusRead⟩
  | _ => exact ⟨_, _, rfl, .unchanged⟩

/-- The inversion of `exec`: a TICK runs the clock loop, any other event is an access, and the queue stays. -/
theorem exec_next_cases {i : Instr} {s t : State} (h : exec i s = .next t) :
    t.inbox = s.inbox ∧
      ((i = .tick ∧ t.chip = tickChip Config.params.hasRtc s.chip) ∨ (i ≠ .tick ∧ AccessEffect s.chip t.chip)) := by
  by_cases hi : i = .tick
  · subst hi
    cases h
    exact ⟨rfl, .inl ⟨rfl, rfl⟩⟩
  · obtain ⟨c, r, hc, effect⟩ := exec_access i s hi
    cases hc.symm.trans h
    exact ⟨rfl, .inr ⟨hi, effect⟩⟩

/-- No access writes the result latch or the remainder (R50). -/
theorem AccessEffect.results {c c' : Chip} (e : AccessEffect c c') :
    c'.math.mres = c.math.mres ∧ c'.math.mrem = c.math.mrem := by
  cases e <;> exact ⟨rfl, rfl⟩

theorem step_pause (s : State) (h : s.inbox = []) : step s = .next s := by
  simp only [step, h, State.pause_eq]

theorem run_refused (n : Nat) (s : State) (why : Refusal) (h : step s = .refused why) :
    Host.Core.run Sys2Proof.core (n + 1) s = .refused why := by
  have h' : Sys2Proof.core.step s = .refused why := h
  simp only [Host.Core.run, h']

/-- The inversion of `step`: a pause, an event, a reset or a restore. -/
theorem step_next_cases {s t : State} (h : step s = .next t) :
    (s.inbox = [] ∧ t = s) ∨
    (∃ w m rest i, s.inbox = .event w m :: rest ∧ decode w = .ok i ∧ exec i (s.takeEvent rest m) = .next t) ∨
    (∃ rest, s.inbox = .reset :: rest ∧ t = s.takeReset rest) ∨
    (∃ c rest, s.inbox = .restore c :: rest ∧ t = s.takeRestore rest c) := by
  unfold step at h
  split at h
  next hq =>
    cases h
    exact .inl ⟨hq, rfl⟩
  next w m rest hq =>
    split at h
    next i hi => exact .inr (.inl ⟨w, m, rest, i, hq, hi, h⟩)
    next => cases h
  next rest hq =>
    cases h
    exact .inr (.inr (.inl ⟨rest, hq, rfl⟩))
  next c rest hq =>
    cases h
    exact .inr (.inr (.inr ⟨c, rest, hq, rfl⟩))

end Sys2Proof.Machine
end

section
/-! The legal states (Safety.lean): every operation of the core keeps them (O58, O59). -/

namespace Sys2Proof.Machine

variable {P : Params} {c : Chip}

/-! The RTC -/

/-- The bounds that `Chip.Legal` states of the RTC, for a unit that is present (R61, R63, R372). -/
structure Rtc.InBounds (P : Params) (r : Rtc) : Prop where
  wait_le : r.waitT ≤ rtcLatency P
  busy_iff : r.busy = true ↔ r.waitT ≠ 0
  sec_lt : r.sec < 1440
  disabled_idle : r.en = false → r.state = .idle

theorem Chip.Legal.rtc_inBounds (h : c.Legal P) : c.rtc.InBounds P where
  wait_le := h.rtcWait_le
  busy_iff := h.busy_iff
  sec_lt := h.sec_lt
  disabled_idle := h.disabled_idle

theorem writeRtcEn_inBounds {r : Rtc} (d8 : Byte) (h : r.InBounds P) : (writeRtcEn d8 r).InBounds P := by
  unfold writeRtcEn
  split
  · exact { h with disabled_idle := nofun }
  · exact { h with disabled_idle := fun _ => rfl }

theorem writeRtcData_inBounds {r : Rtc} (d8 : Byte) (h : r.InBounds P) : (writeRtcData d8 r).InBounds P := by
  unfold writeRtcData
  split
  next hen =>
    obtain ⟨nib, lost, state, cmd, cur, heq⟩ := protocolWrite_frame (keepLow 4 d8) r
    rw [heq]
    exact { h with disabled_idle := fun hdis => Bool.noConfusion (hen.symm.trans hdis) }
  next => exact h

theorem afterRtcDataRead_inBounds {r : Rtc} (h : r.InBounds P) :
    (afterRtcDataRead (rtcLatency P) r).InBounds P := by
  unfold afterRtcDataRead
  split
  · exact { h with wait_le := Nat.le_refl _, busy_iff := by simp [rtcLatency] }
  · exact h

theorem afterRtcStatRead_inBounds {r : Rtc} (h : r.InBounds P) : (afterRtcStatRead r).InBounds P := by
  unfold afterRtcStatRead
  split
  · exact { h with }
  · exact h

theorem RtcAccess.inBounds {f : Rtc → Rtc} (hf : RtcAccess f) {r : Rtc} (h : r.InBounds Config.params) :
    (f r).InBounds Config.params := by
  cases hf with
  | enable d8 => exact writeRtcEn_inBounds d8 h
  | dataWrite d8 => exact writeRtcData_inBounds d8 h
  | dataRead => exact afterRtcDataRead_inBounds h
  | statusRead => exact afterRtcStatRead_inBounds h

theorem rtcWaitStep_inBounds {r : Rtc} (h : r.InBounds P) : (rtcWaitStep r).InBounds P := by
  have hle := h.wait_le
  have hbusy := h.busy_iff
  unfold rtcWaitStep
  split
  next => exact h
  next => exact { h with wait_le := Nat.zero_le _, busy_iff := by simp }
  next n hn =>
    exact { h with wait_le := show n + 1 ≤ _ by omega, busy_iff := by simpa [hn] using hbusy }

/-- The accumulator wraps at 1440 (R414). -/
theorem countSecond_inBounds {r : Rtc} (h : r.InBounds P) : (countSecond r).InBounds P := by
  have hsec := h.sec_lt
  refine { h with sec_lt := ?_ }
  show (if r.sec + 1 == 1440 then 0 else r.sec + 1) < 1440
  split
  · decide
  next hne =>
    have hne : r.sec + 1 ≠ 1440 := by simpa using hne
    omega

theorem countCycle_inBounds {r : Rtc} (h : r.InBounds P) : (countCycle r).InBounds P := by
  unfold countCycle
  dsimp only
  split
  · exact countSecond_inBounds { h with }
  · exact { h with }

theorem whenPresent_inBounds {f : Rtc → Rtc} {r : Rtc} (hasRtc : Bool) (hf : (f r).InBounds P)
    (h : r.InBounds P) : (whenPresent hasRtc f r).InBounds P := by
  cases hasRtc
  · exact h
  · exact hf

@[simp] theorem whenPresent_false (f : Rtc → Rtc) (r : Rtc) : whenPresent false f r = r := rfl

/-- The busy timer of an RTC that is as after reset has ended. -/
theorem Rtc.inert.rtcWaitStep {r : Rtc} (h : r.inert) : (rtcWaitStep r).inert := by
  have hidle : r.waitT = 0 := by rw [h]; rfl
  rwa [rtcWaitStep_idle r hidle]

/-! One unit of a legal core replaced -/

theorem Chip.Legal.setDec (h : c.Legal P) {u : Decomp} (hstat : u.dstat &&& 0x7F = 0)
    (hlen : ∀ x ∈ u.dlast, x.length < 2 ^ 19) : (c.setDec u).Legal P :=
  { h with dstat_reserved := hstat, session_length := hlen }

theorem Chip.Legal.setPort (h : c.Legal P) (u : DataPort) : (c.setPort u).Legal P := { h with }

theorem Chip.Legal.setMath (h : c.Legal P) {u : MathUnit} (hmul : u.mulWait ≤ mulLatency P)
    (hdiv : u.divWait ≤ divLatency P) : (c.setMath u).Legal P :=
  { h with mulWait_le := hmul, divWait_le := hdiv }

theorem Chip.Legal.setMmu (h : c.Legal P) (u : Mmu) : (c.setMmu u).Legal P := { h with }

theorem Chip.Legal.setRam (h : c.Legal P) {m : Memory} (hwf : Memory.wf P.ramInit m = true)
    (hlt : ∀ x ∈ m, x.1 < P.ramSize) : (c.setRam m).Legal P :=
  { h with ram_wf := hwf, ram_lt := hlt }

theorem Chip.Legal.setRtc (h : c.Legal P) {u : Rtc} (hu : u.InBounds P) (hin : P.hasRtc = false → u.inert) :
    (c.setRtc u).Legal P :=
  { h with
    rtcWait_le := hu.wait_le
    busy_iff := hu.busy_iff
    sec_lt := hu.sec_lt
    disabled_idle := hu.disabled_idle
    no_rtc := hin }

theorem Chip.Legal.setCycles (h : c.Legal P) (n : Nat) : (c.setCycles n).Legal P := { h with }

/-- An effect on the RTC that keeps its bounds; an absent RTC has none (R370). -/
theorem Chip.Legal.setRtc_whenPresent (h : c.Legal P) {f : Rtc → Rtc} (hf : (f c.rtc).InBounds P) :
    (c.setRtc (whenPresent P.hasRtc f c.rtc)).Legal P :=
  h.setRtc (whenPresent_inBounds _ hf h.rtc_inBounds) fun hno => by
    simpa [hno] using h.no_rtc hno

/-! The operations of the core -/

/-- A 16-bit length shifted by a 2-bit mode (R209, D43). -/
theorem describeSession_length_lt (rom : Addr24 → Byte) (u : Decomp) :
    (describeSession rom u).length < 2 ^ 19 := by
  have hlen := u.dlen.isLt
  have hmode : (keepLow 2 (rom (descriptorAddr u))).toNat ≤ 3 := by omega
  have hpow := Nat.pow_le_pow_right (show 0 < 2 by decide) hmode
  calc u.dlen.toNat <<< (keepLow 2 (rom (descriptorAddr u))).toNat
      = u.dlen.toNat * 2 ^ (keepLow 2 (rom (descriptorAddr u))).toNat := Nat.shiftLeft_eq _ _
    _ ≤ u.dlen.toNat * 2 ^ 3 := Nat.mul_le_mul_left _ hpow
    _ < 2 ^ 19 := by omega

theorem Chip.Legal.startSession (h : c.Legal P) (rom : Addr24 → Byte) (d8 : Byte) :
    (c.setDec (startSession rom d8 c.dec)).Legal P := by
  refine h.setDec (by decide : dstatStarted &&& 0x7F = 0) fun x hx => ?_
  obtain rfl : describeSession rom { c.dec with didx := d8 } = x := Option.some.inj hx
  exact describeSession_length_lt _ _

theorem Chip.Legal.windowStore (h : c.Legal P) (a24 : Addr24) (d8 : Byte) :
    (c.setRam (windowStore P c a24 d8)).Legal P := by
  unfold Machine.windowStore
  split
  next o ho =>
    obtain ⟨-, -, -, -, hlt⟩ := ramCell_eq_some ho
    refine h.setRam (Memory.wf_write o d8 h.ram_wf) fun x hx => ?_
    rcases Memory.mem_write hx with hx | rfl
    · exact h.ram_lt x hx
    · exact hlt
  next => exact h.setRam h.ram_wf h.ram_lt

theorem AccessEffect.legal {c' : Chip} (e : AccessEffect c c') (h : c.Legal Config.params) :
    c'.Legal Config.params := by
  cases e with
  | unchanged => exact h
  | decompRegs => exact h.setDec h.dstat_reserved h.session_length
  | session rom d8 => exact h.startSession rom d8
  | decompStatusRead =>
    refine h.setDec ?_ h.session_length
    show c.dec.dstat &&& 0x7F &&& 0x7F = 0
    rw [BitVec.and_assoc, BitVec.and_self, h.dstat_reserved]
  | port u => exact h.setPort u
  | mathRegs => exact h.setMath h.mulWait_le h.divWait_le
  | multiply => exact h.setMath (Nat.le_refl _) h.divWait_le
  | divide => exact h.setMath h.mulWait_le (Nat.le_refl _)
  | mmu u => exact h.setMmu u
  | sram a24 d8 => exact h.windowStore a24 d8
  | rtc f hf => exact h.setRtc_whenPresent (hf.inBounds h.rtc_inBounds)

/-- One TICK: the timers count down, the RTC's wait ends with its busy flag, the accumulator wraps (R410). -/
theorem Chip.Legal.tickChip (h : c.Legal P) : (tickChip P.hasRtc c).Legal P := by
  have hmath : (c.setMath (divTimerStep (mulTimerStep c.math))).Legal P := by
    refine h.setMath ?_ ?_
    · simpa using Nat.le_succ_of_le h.mulWait_le
    · simpa using Nat.le_succ_of_le h.divWait_le
  have hwait := hmath.setRtc (rtcWaitStep_inBounds h.rtc_inBounds) fun hno => (h.no_rtc hno).rtcWaitStep
  exact (hwait.setRtc_whenPresent (countCycle_inBounds hwait.rtc_inBounds)).setCycles _

/-- What a reset leaves is legal, its SRAM in order. -/
theorem Chip.afterReset_legal (nib : Vector Nibble 13) (lost : Bool) {ram : Memory}
    (hwf : Memory.wf P.ramInit ram = true) (hlt : ∀ x ∈ ram, x.1 < P.ramSize) :
    (Chip.afterReset nib lost ram).Legal P where
  dstat_reserved := BitVec.zero_and
  session_length := nofun
  mulWait_le := Nat.zero_le _
  divWait_le := Nat.zero_le _
  rtcWait_le := Nat.zero_le _
  busy_iff := by simp [Chip.afterReset, Rtc.afterReset]
  sec_lt := Nat.zero_lt_succ 1439
  disabled_idle := fun _ => rfl
  ram_wf := hwf
  ram_lt := hlt
  no_rtc := fun _ => rfl

theorem exec_legal {i : Instr} {s t : State} (h : s.chip.Legal Config.params) (he : exec i s = .next t) :
    t.chip.Legal Config.params := by
  obtain ⟨-, ⟨-, htick⟩ | ⟨-, effect⟩⟩ := exec_next_cases he
  · exact htick ▸ h.tickChip
  · exact effect.legal h

end Sys2Proof.Machine
end

section
/-! The snapshot (O60). A restored machine differs from the one the snapshot was taken of in the open-bus byte and the
byte last returned; a step reads neither. -/

namespace Sys2Proof.Machine

/-- Two machines of the same core, queue and event number. -/
structure SameCore (s u : State) : Prop where
  chip : u.chip = s.chip
  inbox : u.inbox = s.inbox
  draw : u.draw = s.draw

/-- The same, and the same byte last returned. -/
structure SameCoreRet (s u : State) : Prop extends SameCore s u where
  ret : u.ret = s.ret

/-- Two outcomes of the same kind: next states in the relation `R`, or the same refusal. -/
inductive OutcomesRelated (R : State → State → Prop) : Result → Result → Prop
  | next {s u : State} (h : R s u) : OutcomesRelated R (.next s) (.next u)
  | refused (why : Refusal) : OutcomesRelated R (.refused why) (.refused why)

variable {s u : State}

/-- No event's meaning reads the byte last returned. -/
theorem exec_setRet (i : Instr) (s : State) (r : Option Byte) : exec i { s with ret := r } = exec i s := by
  cases i <;> rfl

theorem OutcomesRelated.refl {R : State → State → Prop} (hR : ∀ s, R s s) (o : Result) : OutcomesRelated R o o := by
  cases o with
  | next s => exact .next (hR s)
  | fault f => cases f
  | refused why => exact .refused why

/-- The states of two such machines once each has taken its event differ at most in the byte last returned. -/
theorem SameCore.exec_takeEvent (h : SameCore s u) (i : Instr) (rest : List Input) (m : Byte) :
    exec i (u.takeEvent rest m) = exec i (s.takeEvent rest m) := by
  have heq : u.takeEvent rest m = { s.takeEvent rest m with ret := u.ret } := by
    simp [State.takeEvent, h.chip, h.draw]
  rw [heq, exec_setRet]

/-- An input that is taken sets the returned byte in both machines. -/
theorem SameCore.step_of_queued (h : SameCore s u) (hq : s.inbox ≠ []) :
    OutcomesRelated SameCoreRet (step s) (step u) := by
  unfold step
  rw [h.inbox]
  match hs : s.inbox with
  | [] => exact absurd hs hq
  | .event w m :: rest =>
    dsimp only
    cases decode w with
    | ok i =>
      simp only [h.exec_takeEvent]
      exact .refl (fun _ => ⟨⟨rfl, rfl, rfl⟩, rfl⟩) _
    | error why => exact .refused _
  | .reset :: rest => exact .next ⟨⟨congrArg Chip.warmReset h.chip, rfl, h.draw⟩, rfl⟩
  | .restore c :: rest => exact .next ⟨⟨rfl, rfl, h.draw⟩, rfl⟩

theorem OutcomesRelated.mono {R S : State → State → Prop} (hRS : ∀ s u, R s u → S s u) {o o' : Result}
    (h : OutcomesRelated R o o') : OutcomesRelated S o o' := by
  cases h with
  | next h => exact .next (hRS _ _ h)
  | refused why => exact .refused why

theorem SameCore.step (h : SameCore s u) : OutcomesRelated SameCore (step s) (step u) := by
  by_cases hq : s.inbox = []
  · rw [step_pause s hq, step_pause u (h.inbox.trans hq)]
    exact .next h
  · exact (h.step_of_queued hq).mono fun _ _ h => h.toSameCore

theorem SameCoreRet.step (h : SameCoreRet s u) : OutcomesRelated SameCoreRet (step s) (step u) := by
  by_cases hq : s.inbox = []
  · rw [step_pause s hq, step_pause u (h.inbox.trans hq)]
    exact .next h
  · exact h.toSameCore.step_of_queued hq

/-- Runs of `n` steps keep `R`, so a first step that lands in `R` makes runs of `n + 1` steps that end in `R`. -/
theorem run_succ_related {R : State → State → Prop} {n : Nat}
    (hn : ∀ s u, R s u →
      OutcomesRelated R (Host.Core.run Sys2Proof.core n s) (Host.Core.run Sys2Proof.core n u))
    (h : OutcomesRelated R (step s) (step u)) :
    OutcomesRelated R (Host.Core.run Sys2Proof.core (n + 1) s) (Host.Core.run Sys2Proof.core (n + 1) u) := by
  generalize hs : step s = o, hu : step u = o' at h
  cases h with
  | next h =>
    rw [run_succ _ _ _ hs, run_succ _ _ _ hu]
    exact hn _ _ h
  | refused why =>
    rw [run_refused _ _ _ hs, run_refused _ _ _ hu]
    exact .refused why

/-- A relation that every step keeps is kept by every run. -/
theorem run_related {R : State → State → Prop} (hR : ∀ s u, R s u → OutcomesRelated R (step s) (step u))
    (n : Nat) : ∀ s u, R s u →
      OutcomesRelated R (Host.Core.run Sys2Proof.core n s) (Host.Core.run Sys2Proof.core n u) := by
  induction n with
  | zero => exact fun _ _ h => .next h
  | succ n ih => exact fun s u h => run_succ_related ih (hR s u h)

/-- A run of machines of the same core; where it takes an input, the returned byte is the same too. -/
theorem SameCore.run (h : SameCore s u) (n : Nat) :
    OutcomesRelated (fun t v => SameCore t v ∧ (n ≠ 0 → s.inbox ≠ [] → v.ret = t.ret))
      (Host.Core.run Sys2Proof.core n s) (Host.Core.run Sys2Proof.core n u) := by
  cases n with
  | zero => exact .next ⟨h, fun h0 => absurd rfl h0⟩
  | succ n =>
    by_cases hq : s.inbox = []
    · exact (run_related (fun _ _ => SameCore.step) (n + 1) _ _ h).mono
        fun _ _ h => ⟨h, fun _ hne => absurd hq hne⟩
    · exact (run_succ_related (run_related (fun _ _ => SameCoreRet.step) n) (h.step_of_queued hq)).mono
        fun _ _ h => ⟨h.toSameCore, fun _ _ => h.ret⟩

end Sys2Proof.Machine
end

section
/-! The statements about the state, settled. -/

namespace Sys2Proof.Machine

/-- Settles O58: by the kind of the input the step takes; an event's case is `exec_legal`. -/
theorem stepKeepsTheStateLegal : Obligations.StepKeepsTheStateLegal := by
  intro s t hs h
  have tail {x : Input} {rest : List Input} (hq : s.inbox = x :: rest) :
      ∀ c, Input.restore c ∈ rest → c.Legal Config.params :=
    fun c hc => hs.snapshots c (hq ▸ List.mem_cons_of_mem x hc)
  obtain ⟨-, rfl⟩ | ⟨w, m, rest, i, hq, -, he⟩ | ⟨rest, hq, rfl⟩ | ⟨c, rest, hq, rfl⟩ := step_next_cases h
  · exact hs
  · obtain ⟨hinbox, -⟩ := exec_next_cases he
    exact ⟨exec_legal (s := s.takeEvent rest m) hs.chip he, hinbox ▸ tail hq⟩
  · exact ⟨Chip.afterReset_legal _ _ hs.chip.ram_wf hs.chip.ram_lt, tail hq⟩
  · exact ⟨hs.snapshots c (hq ▸ List.mem_cons_self), tail hq⟩

/-- Settles O59: the power-on core is a core after reset whose SRAM list is empty. -/
theorem resetStateIsLegal : Obligations.ResetStateIsLegal where
  chip := Chip.afterReset_legal _ _ Memory.wf_nil fun _ hx => absurd hx List.not_mem_nil
  snapshots := fun _ hc => absurd hc List.not_mem_nil

/-- Settles O33: an access has no such effect, and a TICK only by ending a math timer. -/
theorem onlyCompletionWritesTheResultLatch : Obligations.OnlyCompletionWritesTheResultLatch := by
  intro i s t h hcond
  obtain ⟨-, ⟨hi, htick⟩ | ⟨-, effect⟩⟩ := exec_next_cases h
  · obtain ⟨hmul, hdiv⟩ := hcond.resolve_left (absurd hi)
    exact htick ▸ tickChip_results _ _ hmul hdiv
  · exact effect.results

/-- Settles O60: the restore leaves a machine of the same core, and a run keeps that. -/
theorem restoredSnapshotBehavesTheSame : Obligations.RestoredSnapshotBehavesTheSame := by
  intro n s u hq hdraw
  rw [run_succ n u _ (step_restore u s.inbox s.chip hq)]
  have hrun := SameCore.run (s := s) (u := u.takeRestore s.inbox s.chip) ⟨rfl, rfl, hdraw⟩ n
  generalize Host.Core.run Sys2Proof.core n s = o,
    Host.Core.run Sys2Proof.core n (u.takeRestore s.inbox s.chip) = o' at hrun
  cases hrun with
  | next h =>
    obtain ⟨hcore, hret⟩ := h
    refine ⟨fun t ht => ?_, nofun⟩
    cases ht
    exact ⟨_, rfl, hcore.chip, hcore.inbox, hcore.draw, hret⟩
  | refused why => exact ⟨fun _ ht => (by cases ht), fun _ h => h⟩

/-- Settles O55: each unit's reset value is the table's, and the battery-backed cells and the SRAM are given to it. -/
theorem resetTable : Obligations.ResetTable :=
  ⟨fun s rest hq => step_reset s rest hq, rfl, fun _ => rfl, fun _ => rfl⟩

end Sys2Proof.Machine
end

section
/-! SUPPORT. The decoder, said once (30_encoding.md R143 to R146): which words it reads and as what, and that every
address of the block has a row. -/

namespace Sys2Proof

/-- A slice of a word of any width, as a quotient and a remainder. -/
theorem toNat_slice {n : Nat} (x : BitVec n) (start len : Nat) :
    (x.extractLsb' start len).toNat = x.toNat / 2 ^ start % 2 ^ len := by
  rw [BitVec.extractLsb'_toNat, Nat.shiftRight_eq_div_pow]

/-- The inversion of `decode`, by the class of the word (R140, R143). -/
theorem decode_ok_cases {w : EventWord} {i : Instr} (h : decode w = .ok i) :
    zField w = 0 ∧
      ((clsField w = 0 ∧ dataField w = 0 ∧ i = decodeRead w) ∨
        (clsField w = 1 ∧ i = decodeWrite w) ∨
        (clsField w = 2 ∧ addrField w = 0 ∧ dataField w = 0 ∧ i = .tick) ∨
        (clsField w = 3 ∧ dataField w = 0 ∧ i = .winrd (addrField w)) ∨
        (clsField w = 4 ∧ i = .winwr (addrField w) (dataField w))) := by
  unfold decode requireNoData at h
  split at h
  next hz =>
    refine ⟨hz, ?_⟩
    split at h
    next hcls =>
      split at h
      next hd => cases h; exact .inl ⟨BitVec.eq_of_toNat_eq hcls, hd, rfl⟩
      next => cases h
    next hcls => cases h; exact .inr (.inl ⟨BitVec.eq_of_toNat_eq hcls, rfl⟩)
    next hcls =>
      split at h
      next ha =>
        split at h
        next hd => cases h; exact .inr (.inr (.inl ⟨BitVec.eq_of_toNat_eq hcls, ha, hd, rfl⟩))
        next => cases h
      next => cases h
    next hcls =>
      split at h
      next hd => cases h; exact .inr (.inr (.inr (.inl ⟨BitVec.eq_of_toNat_eq hcls, hd, rfl⟩)))
      next => cases h
    next hcls => cases h; exact .inr (.inr (.inr (.inr ⟨BitVec.eq_of_toNat_eq hcls, rfl⟩)))
    next => cases h
  next => cases h

/-- A row that an address selects is a row of the map (R143). -/
theorem mem_of_mmioRow_eq_some {a : Addr16} {r : MmioRow} (h : mmioRow a = some r) : r ∈ mmioRows :=
  List.mem_of_find?_eq_some h

/-- Every address from 0x4800 to 0x4842 has a row (R145, R146). -/
theorem mmioRow_isSome_of_inRange : ∀ k < 0x43, (mmioRow (BitVec.ofNat 16 (0x4800 + k))).isSome = true := by
  decide

/-- An address that selects no row is outside the block (R143, R172). -/
theorem outOfRange_of_mmioRow_eq_none {w : EventWord} (h : mmioRow (a16Field w) = none) :
    outOfRange (addrField w) = true := by
  have hlow : (addrField w).extractLsb' 0 16 = a16Field w := by
    apply BitVec.eq_of_toNat_eq
    rw [toNat_slice, addrField, a16Field, toNat_slice, toNat_slice]
    omega
  by_contra hin
  obtain ⟨hlo, hhi⟩ : 0x4800 ≤ (a16Field w).toNat ∧ (a16Field w).toNat ≤ 0x4842 := by
    simpa [outOfRange, hlow] using hin
  have hrow := mmioRow_isSome_of_inRange ((a16Field w).toNat - 0x4800) (by omega)
  rw [Nat.add_sub_cancel' hlo, BitVec.ofNat_toNat, BitVec.setWidth_eq, h] at hrow
  cases hrow

/-- The events of a row of the map need no check of their operands (R180). -/
theorem wellFormed_of_mem_mmioRows {r : MmioRow} (hr : r ∈ mmioRows) (b d : Byte) :
    (r.rd b).wellFormed = true ∧ (r.wr b d).wellFormed = true := by
  simp only [mmioRows, List.mem_append] at hr
  obtain ((((hr | hr) | hr) | hr) | hr) | hr := hr <;> fin_cases hr <;> exact ⟨rfl, rfl⟩

/-- The decoder answers only well-formed events (R143). -/
theorem decode_wellFormed {w : EventWord} {i : Instr} (h : decode w = .ok i) : i.wellFormed = true := by
  obtain ⟨-, ⟨-, -, rfl⟩ | ⟨-, rfl⟩ | ⟨-, -, -, rfl⟩ | ⟨-, -, rfl⟩ | ⟨-, rfl⟩⟩ := decode_ok_cases h
  · unfold decodeRead
    split
    next r hr => exact (wellFormed_of_mem_mmioRows (mem_of_mmioRow_eq_some hr) _ 0).1
    next hr => exact outOfRange_of_mmioRow_eq_none hr
  · unfold decodeWrite
    split
    next r hr => exact (wellFormed_of_mem_mmioRows (mem_of_mmioRow_eq_some hr) _ _).2
    next hr => exact outOfRange_of_mmioRow_eq_none hr
  · rfl
  · rfl
  · rfl

/-- An event word written out as its five fields (R140). -/
theorem fields_eq_eventWord (cls : BitVec 3) (b d : Byte) (a : Addr16) :
    cls ++ 0#5 ++ b ++ a ++ d = eventWord cls (b ++ a) d := by
  have hz : (0#5).toNat = 0 := rfl
  apply BitVec.eq_of_toNat_eq
  simp only [eventWord_toNat, toNat_append_eq]
  omega

end Sys2Proof
end

section
/-! SUPPORT. The dispatcher ignores the upper address byte (20_memory.md R101): no row's event has a meaning that
depends on it. -/

namespace Sys2Proof.Machine

/-- The events of a row of the map mean the same whatever the ignored address byte (R101, R170, R171). -/
theorem exec_row_bank {r : MmioRow} (hr : r ∈ mmioRows) (b b' d : Byte) :
    exec (r.rd b) = exec (r.rd b') ∧ exec (r.wr b d) = exec (r.wr b' d) := by
  simp only [mmioRows, List.mem_append] at hr
  obtain ((((hr | hr) | hr) | hr) | hr) | hr := hr <;> fin_cases hr <;> exact ⟨rfl, rfl⟩

/-- An out-of-range event means the same whatever its address (R172, R173). -/
theorem exec_outOfRange_addr (a a' : Addr24) (d : Byte) :
    exec (.rdOutOfRange a) = exec (.rdOutOfRange a') ∧
      exec (.wrOutOfRange a d) = exec (.wrOutOfRange a' d) := ⟨rfl, rfl⟩

/-- Two read words that differ only in the ignored address byte decode to events of one meaning. -/
theorem decode_rdWord_bank (b b' : Byte) (a : Addr16) :
    ∃ i i', decode (rdWord b a) = .ok i ∧ decode (rdWord b' a) = .ok i' ∧ exec i = exec i' := by
  refine ⟨_, _, decode_rdWord b a, decode_rdWord b' a, ?_⟩
  split
  next r hr => exact (exec_row_bank (mem_of_mmioRow_eq_some hr) b b' 0).1
  next => exact (exec_outOfRange_addr _ _ 0).1

/-- Two write words that differ only in the ignored address byte decode to events of one meaning. -/
theorem decode_wrWord_bank (b b' d : Byte) (a : Addr16) :
    ∃ i i', decode (wrWord b d a) = .ok i ∧ decode (wrWord b' d a) = .ok i' ∧ exec i = exec i' := by
  refine ⟨_, _, decode_wrWord b d a, decode_wrWord b' d a, ?_⟩
  split
  next r hr => exact (exec_row_bank (mem_of_mmioRow_eq_some hr) b b' d).2
  next => exact (exec_outOfRange_addr _ _ d).2

/-- A step sees of the word it takes only the meaning of its event. -/
theorem step_congr_word {w w' : EventWord}
    (h : ∃ i i', decode w = .ok i ∧ decode w' = .ok i' ∧ exec i = exec i') (s : State) (m : Byte)
    (rest : List Input) :
    step { s with inbox := .event w m :: rest } = step { s with inbox := .event w' m :: rest } := by
  obtain ⟨i, i', hd, hd', he⟩ := h
  rw [step_event _ w m rest i rfl hd, step_event _ w' m rest i' rfl hd', he]
  rfl

end Sys2Proof.Machine
end

section
/-! SUPPORT. Address masks as ranges (20_memory.md R107, R108): a mask of one or two fields keeps those fields, so each
window pattern is a condition on the quotients of the address. -/

namespace Sys2Proof.Machine

/-- A mask of `n` bits at bit `s` keeps that field. -/
theorem and_field (x s n : Nat) : x &&& (2 ^ n - 1) * 2 ^ s = x / 2 ^ s % 2 ^ n * 2 ^ s := by
  apply Nat.eq_of_testBit_eq
  intro i
  simp only [Nat.testBit_and, Nat.testBit_mul_two_pow, Nat.testBit_two_pow_sub_one, Nat.testBit_mod_two_pow,
    Nat.testBit_div_two_pow]
  by_cases hi : s ≤ i
  · simp [hi, Bool.and_comm]
  · simp [hi]

/-- A mask of two fields, the second below the first, keeps both. -/
theorem and_two_fields (x s n t m : Nat) (h : t + m ≤ s) :
    x &&& ((2 ^ n - 1) * 2 ^ s + (2 ^ m - 1) * 2 ^ t) =
      x / 2 ^ s % 2 ^ n * 2 ^ s + x / 2 ^ t % 2 ^ m * 2 ^ t := by
  have low_lt {v : Nat} (hv : v < 2 ^ m) : v * 2 ^ t < 2 ^ s :=
    calc v * 2 ^ t < 2 ^ m * 2 ^ t := Nat.mul_lt_mul_of_pos_right hv (Nat.two_pow_pos t)
      _ = 2 ^ (t + m) := by rw [Nat.pow_add, Nat.mul_comm]
      _ ≤ 2 ^ s := Nat.pow_le_pow_right (by decide) h
  have add_eq_or (u : Nat) {v : Nat} (hv : v < 2 ^ m) : u * 2 ^ s + v * 2 ^ t = u * 2 ^ s ||| v * 2 ^ t := by
    rw [Nat.mul_comm u, Nat.two_pow_add_eq_or_of_lt (low_lt hv)]
  rw [add_eq_or _ (Nat.sub_one_lt (Nat.two_pow_pos m).ne'), add_eq_or _ (Nat.mod_lt _ (Nat.two_pow_pos m)),
    Nat.and_or_distrib_left, and_field, and_field]

/-- The first shape: bits 22:20 are the window's number and bit 15 is set (R107). -/
theorem inShape1_iff (k : Fin 4) (a : Addr24) :
    inShape1 k.val a = true ↔ a.toNat / 2 ^ 20 % 2 ^ 3 = k.val ∧ a.toNat / 2 ^ 15 % 2 ^ 1 = 1 := by
  have hmask : a.toNat &&& 0x708000 = a.toNat / 2 ^ 20 % 2 ^ 3 * 2 ^ 20 + a.toNat / 2 ^ 15 % 2 ^ 1 * 2 ^ 15 :=
    and_two_fields a.toNat 20 3 15 1 (by decide)
  have hk := k.isLt
  rw [inShape1, beq_iff_eq, ← BitVec.toNat_inj, BitVec.toNat_and, BitVec.toNat_ofNat, BitVec.toNat_ofNat]
  norm_num only at hmask ⊢
  omega

/-- The second shape: bits 23:20 are 12 and the window's number (R107). -/
theorem inShape2_iff (k : Fin 4) (a : Addr24) : inShape2 k.val a = true ↔ a.toNat / 2 ^ 20 = 12 + k.val := by
  have hmask : a.toNat &&& 0xF00000 = a.toNat / 2 ^ 20 % 2 ^ 4 * 2 ^ 20 := and_field a.toNat 20 4
  have hk := k.isLt
  have ha := a.isLt
  rw [inShape2, beq_iff_eq, ← BitVec.toNat_inj, BitVec.toNat_and, BitVec.toNat_ofNat, BitVec.toNat_ofNat]
  norm_num only at hmask ⊢
  omega

theorem inWindow_iff (k : Fin 4) (a : Addr24) :
    inWindow k.val a = true ↔
      (a.toNat / 2 ^ 20 % 2 ^ 3 = k.val ∧ a.toNat / 2 ^ 15 % 2 ^ 1 = 1) ∨ a.toNat / 2 ^ 20 = 12 + k.val := by
  rw [inWindow, Bool.or_eq_true, inShape1_iff, inShape2_iff]

/-- No address is in two ROM windows (R107). -/
theorem inWindow_unique {j k : Fin 4} {a : Addr24} (hj : inWindow j.val a = true) (hk : inWindow k.val a = true) :
    j = k := by
  rw [inWindow_iff] at hj hk
  omega

/-- The window found is the only one that holds the address, so the order of the search does not matter. -/
theorem windowOf_eq_some_iff (a : Addr24) (k : Fin 4) : windowOf a = some k ↔ inWindow k.val a = true := by
  constructor
  · intro h
    unfold windowOf at h
    split_ifs at h <;> cases h <;> assumption
  · intro h
    have hother (j : Fin 4) (hj : inWindow j.val a = true) : some j = some k := congrArg some (inWindow_unique hj h)
    unfold windowOf
    split_ifs with h0 h1 h2 h3
    · exact hother 0 h0
    · exact hother 1 h1
    · exact hother 2 h2
    · exact hother 3 h3
    · fin_cases k <;> contradiction

/-- The RAM window: bit 22 is clear and bits 15:13 are 3 (R108). -/
theorem inRamWindow_iff (a : Addr24) :
    inRamWindow a = true ↔ a.toNat / 2 ^ 22 % 2 ^ 1 = 0 ∧ a.toNat / 2 ^ 13 % 2 ^ 3 = 3 := by
  have hmask : a.toNat &&& 0x40E000 = a.toNat / 2 ^ 22 % 2 ^ 1 * 2 ^ 22 + a.toNat / 2 ^ 13 % 2 ^ 3 * 2 ^ 13 :=
    and_two_fields a.toNat 22 1 13 3 (by decide)
  rw [inRamWindow, beq_iff_eq, ← BitVec.toNat_inj, BitVec.toNat_and, BitVec.toNat_ofNat, BitVec.toNat_ofNat]
  norm_num only at hmask ⊢
  omega

/-- The banked address is the selected megabyte and the low 20 address bits (R107). -/
theorem bankedAddr_toNat (bank : BitVec 3) (a : Addr24) :
    (bankedAddr bank a).toNat = bank.toNat * 2 ^ 20 + a.toNat % 2 ^ 20 := by
  have hbank := bank.isLt
  have hlow : a.toNat &&& 0x0FFFFF = a.toNat % 2 ^ 20 := Nat.and_two_pow_sub_one_eq_mod a.toNat 20
  have hhigh : (bank.setWidth 24 <<< 20).toNat = 2 ^ 20 * bank.toNat := by
    rw [BitVec.toNat_shiftLeft, BitVec.toNat_setWidth, Nat.shiftLeft_eq]
    omega
  calc (bankedAddr bank a).toNat
      = 2 ^ 20 * bank.toNat ||| a.toNat % 2 ^ 20 := by
        rw [bankedAddr, BitVec.toNat_or, hhigh, BitVec.toNat_and, ← hlow]
        rfl
    _ = 2 ^ 20 * bank.toNat + a.toNat % 2 ^ 20 :=
        (Nat.two_pow_add_eq_or_of_lt (Nat.mod_lt _ (Nat.two_pow_pos 20)) _).symm
    _ = bank.toNat * 2 ^ 20 + a.toNat % 2 ^ 20 := by rw [Nat.mul_comm]

/-- The translation sees only the address bits that the size mode keeps (R105). -/
theorem dromPhys_congr (P : Params) (msize : BitVec 2) {x y : Addr24}
    (h : x.toNat % 2 ^ (20 + msize.toNat) = y.toNat % 2 ^ (20 + msize.toNat)) :
    dromPhys P msize x = dromPhys P msize y := by
  rw [dromPhys, dromPhys, h]

/-- In the 8 Mbit mode every bank aliases bank 0 (R105). -/
theorem dromPhys_bankedAddr_8Mbit (P : Params) (bank bank' : BitVec 3) (a : Addr24) :
    dromPhys P 0 (bankedAddr bank a) = dromPhys P 0 (bankedAddr bank' a) := by
  apply dromPhys_congr
  show _ % 2 ^ 20 = _ % 2 ^ 20
  rw [bankedAddr_toNat, bankedAddr_toNat]
  omega

end Sys2Proof.Machine
end

section
/-! SUPPORT. The default mirroring function (20_memory.md R109): each turn of its loop drops the top bit of the address,
and that bit off the size too where the size is above it. -/

namespace Sys2Proof.Machine

/-- A number of `k + 1` bits whose top bit is clear has `k` bits. -/
theorem lt_two_pow_of_top_clear {x k : Nat} (hx : x < 2 ^ (k + 1)) (hbit : ¬ x.testBit k = true) : x < 2 ^ k :=
  Nat.lt_of_not_le fun hge => hbit (Nat.testBit_of_two_pow_le_and_two_pow_add_one_gt hge hx)

theorem mirrorFrom_of_lt (bits base : Nat) {addr size : Nat} (h : addr < size) :
    mirrorFrom bits addr size base = base + addr := by
  cases bits with
  | zero => rfl
  | succ k => rw [mirrorFrom, if_pos h]

/-- The loop stays within `size` of its base. -/
theorem mirrorFrom_lt {bits addr size : Nat} (base : Nat) (haddr : addr < 2 ^ bits) (hsize : 0 < size) :
    mirrorFrom bits addr size base < base + size := by
  induction bits generalizing addr size base with
  | zero =>
    have hzero : addr < size := by omega
    rw [mirrorFrom_of_lt _ _ hzero]
    omega
  | succ k ih =>
    unfold mirrorFrom
    split_ifs with hin hbit hbig
    · omega
    · have := ih (base + 2 ^ k) (show addr - 2 ^ k < 2 ^ k by omega) (Nat.sub_pos_of_lt hbig)
      omega
    · exact ih base (by omega) hsize
    · exact ih base (lt_two_pow_of_top_clear haddr hbit) hsize

/-- For a power of two the loop takes the remainder: a bit it drops is a multiple of the size. -/
theorem mirrorFrom_two_pow {bits addr : Nat} (j base : Nat) (haddr : addr < 2 ^ bits) :
    mirrorFrom bits addr (2 ^ j) base = base + addr % 2 ^ j := by
  induction bits generalizing addr with
  | zero =>
    obtain rfl : addr = 0 := by omega
    rw [mirrorFrom, Nat.zero_mod]
  | succ k ih =>
    by_cases hin : addr < 2 ^ j
    · rw [mirrorFrom_of_lt _ _ hin, Nat.mod_eq_of_lt hin]
    · have hjk : j ≤ k := by
        by_contra hlt
        have := Nat.pow_le_pow_right (show 0 < 2 by decide) (show k + 1 ≤ j by omega)
        omega
      have hsmall : ¬ 2 ^ j > 2 ^ k := Nat.not_lt.2 (Nat.pow_le_pow_right (by decide) hjk)
      rw [mirrorFrom, if_neg hin, if_neg hsmall]
      split_ifs with hbit
      · have hge : 2 ^ k ≤ addr := Nat.ge_two_pow_of_testBit hbit
        have hdvd : 2 ^ k = 2 ^ j * 2 ^ (k - j) := (pow_mul_pow_sub 2 hjk).symm
        rw [ih (by omega), hdvd, Nat.sub_mul_mod (hdvd ▸ hge)]
      · exact ih (lt_two_pow_of_top_clear haddr hbit)

theorem defaultMirror_eq (addr : Nat) {size : Nat} (h : 0 < size) :
    defaultMirror addr size = mirrorFrom 24 addr size 0 := if_neg h.ne'

end Sys2Proof.Machine
end

section
/-! The statements about memory and the step, settled. -/

namespace Sys2Proof.Machine

/-- Settles O10: both words select the same row, and no row's meaning reads the upper address byte. -/
theorem upperAddressBitsAreIgnored : Obligations.UpperAddressBitsAreIgnored := by
  intro s b b' d m a16 rest
  simp only [fields_eq_eventWord]
  exact ⟨step_congr_word (decode_rdWord_bank b b' a16) s m rest,
    step_congr_word (decode_wrWord_bank b b' d a16) s m rest⟩

/-- Settles O36: the patterns as conditions on the quotients of the address, which the bank and the offset are too. -/
theorem windowPatternsAreBankRanges : Obligations.WindowPatternsAreBankRanges := by
  intro a bank off
  have ha := a.isLt
  have hbank : bank = a.toNat / 2 ^ 16 % 2 ^ 8 := toNat_slice a 16 8
  have hoff : off = a.toNat / 2 ^ 0 % 2 ^ 16 := toNat_slice a 0 16
  refine ⟨fun k => ?_, ?_⟩
  · have hk := k.isLt
    rw [windowOf_eq_some_iff, inWindow_iff]
    omega
  · rw [inRamWindow_iff]
    omega

/-- Settles O39, from the law of `mirror` and the bits that the size mode keeps. -/
theorem translationStaysInsideTheStores : Obligations.TranslationStaysInsideTheStores := by
  intro P msize a bk bk' mmu o draw offset size
  refine ⟨fun hdrom => ⟨dromRead_eq P draw msize a hdrom, rfl, dromPhys_lt P msize a (Nat.pos_of_ne_zero hdrom)⟩,
    fun hempty => if_pos hempty,
    fun hprom => ⟨promRead_eq P draw offset hprom, mirror_lt P offset _ (Nat.pos_of_ne_zero hprom)⟩,
    fun hempty => if_pos hempty, mirror_eq_raw P offset size, fun hcell => ?_,
    fun a' hkept => dromPhys_congr P msize hkept, dromPhys_bankedAddr_8Mbit P bk bk' a⟩
  obtain ⟨-, -, -, -, hlt⟩ := ramCell_eq_some hcell
  exact hlt

/-- Settles O40, by the loop from the mask of bit 23 down. -/
theorem defaultMirrorHasTheLaw : Obligations.DefaultMirrorHasTheLaw := by
  intro addr size haddr hsize
  rw [defaultMirror_eq addr hsize]
  refine ⟨?_, fun hin => ?_, ?_⟩
  · simpa using mirrorFrom_lt 0 haddr hsize
  · rw [mirrorFrom_of_lt _ _ hin, Nat.zero_add]
  · rintro k rfl
    rw [mirrorFrom_two_pow k 0 haddr, Nat.zero_add]

/-- Settles O5: the decoder answers only well-formed events, and the state the event runs on is the one taken off the
queue. -/
theorem stepRunsTheDecodedEvent : Obligations.StepRunsTheDecodedEvent :=
  fun s w m rest i hq hd => ⟨decode_wellFormed hd, step_event s w m rest i hq hd⟩

end Sys2Proof.Machine
end

section
/-! SUPPORT. The encoder against the decoder (30_encoding.md R140 to R146): what the decoder answers on each class of
word, which words are reserved, and the words of a row's events. -/

namespace Sys2Proof

/-! One equation per class, for a word whose zero bits are 0 (R140, R143) -/

section
variable {w : EventWord} (hz : zField w = 0)
include hz

theorem decode_read (hc : clsField w = 0) (hd : dataField w = 0) : decode w = .ok (decodeRead w) := by
  simp [decode, requireNoData, hz, hc, hd]

theorem decode_write (hc : clsField w = 1) : decode w = .ok (decodeWrite w) := by
  simp [decode, hz, hc]

theorem decode_tick (hc : clsField w = 2) (ha : addrField w = 0) (hd : dataField w = 0) :
    decode w = .ok .tick := by
  simp [decode, requireNoData, hz, hc, ha, hd]

theorem decode_winrd (hc : clsField w = 3) (hd : dataField w = 0) : decode w = .ok (.winrd (addrField w)) := by
  simp [decode, requireNoData, hz, hc, hd]

theorem decode_winwr (hc : clsField w = 4) : decode w = .ok (.winwr (addrField w) (dataField w)) := by
  simp [decode, hz, hc]

end

/-! The reserved words (R144) -/

/-- The words that R144 reserves. -/
def Reserved (w : EventWord) : Prop :=
  5 ≤ (clsField w).toNat ∨ zField w ≠ 0 ∨
    (((clsField w).toNat = 0 ∨ (clsField w).toNat = 3) ∧ dataField w ≠ 0) ∨
      ((clsField w).toNat = 2 ∧ w.extractLsb' 0 32 ≠ 0)

/-- Bits 31:0 of a word are its address and data fields. -/
theorem low32_eq_zero_iff (w : EventWord) :
    w.extractLsb' 0 32 = 0 ↔ addrField w = 0 ∧ dataField w = 0 := by
  simp only [← BitVec.toNat_inj, addrField, dataField, toNat_field]
  show _ = 0 ↔ _ = 0 ∧ _ = 0
  omega

theorem not_reserved_of_decode_ok {w : EventWord} {i : Instr} (h : decode w = .ok i) : ¬ Reserved w := by
  obtain ⟨hz, ⟨hc, hd, -⟩ | ⟨hc, -⟩ | ⟨hc, ha, hd, -⟩ | ⟨hc, hd, -⟩ | ⟨hc, -⟩⟩ := decode_ok_cases h
  · simp [Reserved, hz, hc, hd]
  · simp [Reserved, hz, hc]
  · simp [Reserved, hz, hc, (low32_eq_zero_iff w).2 ⟨ha, hd⟩]
  · simp [Reserved, hz, hc, hd]
  · simp [Reserved, hz, hc]

theorem decode_ok_of_not_reserved {w : EventWord} (h : ¬ Reserved w) : ∃ i, decode w = .ok i := by
  simp only [Reserved, not_or, not_and, not_le, ne_eq, not_not] at h
  obtain ⟨hcls, hz, hdata, hlow⟩ := h
  obtain hc | hc | hc | hc | hc : (clsField w).toNat = 0 ∨ (clsField w).toNat = 1 ∨ (clsField w).toNat = 2 ∨
      (clsField w).toNat = 3 ∨ (clsField w).toNat = 4 := by omega
  · exact ⟨_, decode_read hz (BitVec.eq_of_toNat_eq hc) (hdata (.inl hc))⟩
  · exact ⟨_, decode_write hz (BitVec.eq_of_toNat_eq hc)⟩
  · obtain ⟨ha, hd⟩ := (low32_eq_zero_iff w).1 (hlow hc)
    exact ⟨_, decode_tick hz (BitVec.eq_of_toNat_eq hc) ha hd⟩
  · exact ⟨_, decode_winrd hz (BitVec.eq_of_toNat_eq hc) (hdata (.inr hc))⟩
  · exact ⟨_, decode_winwr hz (BitVec.eq_of_toNat_eq hc)⟩

/-- R144: the decoder gives a reason exactly for the reserved words. -/
theorem decode_error_iff (w : EventWord) : (∃ why, decode w = .error why) ↔ Reserved w := by
  constructor
  · rintro ⟨why, hwhy⟩
    by_contra hr
    obtain ⟨i, hi⟩ := decode_ok_of_not_reserved hr
    cases hwhy.symm.trans hi
  · intro hr
    cases hd : decode w with
    | error why => exact ⟨why, rfl⟩
    | ok i => exact absurd hr (not_reserved_of_decode_ok hd)

/-! The words of the events (R140, R145, R146) -/

/-- The word of a row's event carries the row's address (R145, R146). -/
theorem encode_row {r : MmioRow} (hr : r ∈ mmioRows) (b d : Byte) :
    encode (r.rd b) = rdWord b r.addr ∧ encode (r.wr b d) = wrWord b d r.addr := by
  simp only [mmioRows, List.mem_append] at hr
  obtain ((((hr | hr) | hr) | hr) | hr) | hr := hr <;> fin_cases hr <;> exact ⟨rfl, rfl⟩

theorem addr_of_mmioRow_eq_some {a : Addr16} {r : MmioRow} (h : mmioRow a = some r) : r.addr = a :=
  beq_iff_eq.1 (List.find?_some (p := fun r : MmioRow => r.addr == a) h)

theorem encode_decodeRead (w : EventWord) : encode (decodeRead w) = eventWord 0 (addrField w) 0 := by
  unfold decodeRead
  split
  next r hr =>
    rw [(encode_row (mem_of_mmioRow_eq_some hr) _ 0).1, addr_of_mmioRow_eq_some hr, rdWord, ← addrField_eq]
    rfl
  next => rfl

theorem encode_decodeWrite (w : EventWord) :
    encode (decodeWrite w) = eventWord 1 (addrField w) (dataField w) := by
  unfold decodeWrite
  split
  next r hr =>
    rw [(encode_row (mem_of_mmioRow_eq_some hr) _ _).2, addr_of_mmioRow_eq_some hr, wrWord, ← addrField_eq]
    rfl
  next => rfl

/-- No bit of a word is dropped: each class's event keeps every field that the class does not fix. -/
theorem encode_decode {w : EventWord} {i : Instr} (h : decode w = .ok i) : encode i = w := by
  obtain ⟨hz, hcase⟩ := decode_ok_cases h
  rw [← eventWord_fields w hz]
  obtain ⟨hc, hd, rfl⟩ | ⟨hc, rfl⟩ | ⟨hc, ha, hd, rfl⟩ | ⟨hc, hd, rfl⟩ | ⟨hc, rfl⟩ := hcase
  · rw [encode_decodeRead, hc, hd]
  · rw [encode_decodeWrite, hc]
  · rw [hc, ha, hd]; rfl
  · rw [hc, hd]; rfl
  · rw [hc]; rfl

/-- Every row's address is in the block (R145, R146). -/
theorem addr_inRange_of_mem_mmioRows :
    ∀ r ∈ mmioRows, 0x4800 ≤ r.addr.toNat ∧ r.addr.toNat ≤ 0x4842 := by
  decide

/-- An address outside the block selects no row (R143, R172). -/
theorem mmioRow_eq_none_of_outOfRange {w : EventWord} (h : outOfRange (addrField w) = true) :
    mmioRow (a16Field w) = none := by
  have hlow : ((addrField w).extractLsb' 0 16).toNat = (a16Field w).toNat := by
    rw [toNat_slice, addrField, a16Field, toNat_slice, toNat_slice]
    omega
  simp only [outOfRange, hlow, Bool.or_eq_true, decide_eq_true_eq] at h
  cases hrow : mmioRow (a16Field w) with
  | none => rfl
  | some r =>
    have hin := addr_inRange_of_mem_mmioRows r (mem_of_mmioRow_eq_some hrow)
    rw [addr_of_mmioRow_eq_some hrow] at hin
    omega

theorem decode_eventWord_rdOutOfRange {a : Addr24} (h : outOfRange a = true) :
    decode (eventWord 0 a 0) = .ok (.rdOutOfRange a) := by
  have hrow : mmioRow (a16Field (eventWord 0 a 0)) = none := mmioRow_eq_none_of_outOfRange (by simpa using h)
  rw [decode_read (by simp) (by simp) (by simp), decodeRead, hrow, addrField_eventWord]

theorem decode_eventWord_wrOutOfRange {a : Addr24} (h : outOfRange a = true) (d : Byte) :
    decode (eventWord 1 a d) = .ok (.wrOutOfRange a d) := by
  have hrow : mmioRow (a16Field (eventWord 1 a d)) = none := mmioRow_eq_none_of_outOfRange (by simpa using h)
  rw [decode_write (by simp) (by simp), decodeWrite, hrow, addrField_eventWord, dataField_eventWord]

/-- The event of a word is read back: a row's event by the row that its address selects, the others by their class. -/
theorem decode_encode (i : Instr) (h : i.wellFormed = true) : decode (encode i) = .ok i := by
  cases i with
  | tick => simp [encode, decode_tick]
  | winrd a => simp [encode, decode_winrd]
  | winwr a d => simp [encode, decode_winwr]
  | rdOutOfRange a => exact decode_eventWord_rdOutOfRange h
  | wrOutOfRange a d => exact decode_eventWord_wrOutOfRange h d
  | _ =>
    simp only [encode, decode_rdWord, decode_wrWord]
    rfl

end Sys2Proof
end

section
/-! The statements about the encoding, settled. -/

namespace Sys2Proof.Machine

/-- Every event completes, whatever the state (40_dispatcher.md R178). -/
theorem exec_completes (i : Instr) (s : State) : ∃ t, exec i s = .next t := by
  by_cases hi : i = .tick
  · subst hi
    exact ⟨_, rfl⟩
  · obtain ⟨c, r, hc, -⟩ := exec_access i s hi
    exact ⟨_, hc⟩

theorem step_event_error (s : State) (w : EventWord) (m : Byte) (rest : List Input) (why : DecodeError)
    (hq : s.inbox = .event w m :: rest) (hd : decode w = .error why) :
    step s = .refused (.reservedEncoding why) := by
  simp only [step, hq, hd]

/-- Settles O2: the event of a word is read back by its class, a row's event by the row of its address. -/
theorem decodeEncodeRoundTrip : Obligations.DecodeEncodeRoundTrip := decode_encode

/-- Settles O3: the class of the word says which fields its event keeps, and the others are fixed. -/
theorem encodeDecodeRoundTrip : Obligations.EncodeDecodeRoundTrip :=
  fun _ _ h => ⟨encode_decode h, decode_wellFormed h⟩

/-- Settles O4: the decoder gives a reason exactly for the reserved words, and every event it answers completes. -/
theorem stepRefusesExactlyTheReservedWords : Obligations.StepRefusesExactlyTheReservedWords := by
  intro s w m rest hq cls reserved
  refine ⟨fun hr => ?_, fun hr => ?_⟩
  · obtain ⟨why, hwhy⟩ := (decode_error_iff w).2 hr
    exact ⟨why, step_event_error s w m rest why hq hwhy⟩
  · obtain ⟨i, hi⟩ := decode_ok_of_not_reserved hr
    rw [step_event s w m rest i hq hi]
    exact exec_completes i _

/-- Settles O1: each word is the encoding of its event, which is well formed, and so is read back. -/
theorem decodesWordsWrittenFromTheMap : Obligations.DecodesWordsWrittenFromTheMap :=
  ⟨decode_encode (.rdDdata 0) rfl, decode_encode (.wrDidx 0x12 0x03) rfl, decode_encode (.rdPbdata 0) rfl,
    decode_encode (.wrMopm1 0 0x07) rfl, decode_encode (.rdMopa0 0x7E) rfl, decode_encode (.wrMmbank0 0 0x85) rfl,
    decode_encode (.wrRtcdata 0 0x0C) rfl, decode_encode (.rdUnmapped480D 0) rfl,
    decode_encode (.rdOutOfRange 0x004843) rfl, decode_encode .tick rfl, decode_encode (.winrd 0xE12345) rfl,
    decode_encode (.winwr 0x016010 0xBB) rfl⟩

end Sys2Proof.Machine
end

section
/-! SUPPORT. The dispatcher's answers (40_dispatcher.md R170 to R179): which events return a byte, the addresses without
behaviour, and the reads without side effect. -/

namespace Sys2Proof.Machine

/-! What an event answers, by the class of its word (R178, R442) -/

/-- The answers that an event of class `cls` has in the state `s`: a read delivers a byte, any other event none. -/
inductive Answers (cls : BitVec 3) (s : State) : Result → Prop
  | reads (hcls : cls = 0b000#3 ∨ cls = 0b011#3) (v : Byte) (c : Chip) : Answers cls s (s.deliver v c)
  | silent (hcls : ¬ (cls = 0b000#3 ∨ cls = 0b011#3)) (c : Chip) : Answers cls s (s.accept c)

/-- A row's read delivers a byte and its write none (R170, R171, R180). -/
theorem exec_row_answers {r : MmioRow} (hr : r ∈ mmioRows) (b d : Byte) (s : State) :
    (∃ v c, exec (r.rd b) s = s.deliver v c) ∧ ∃ c, exec (r.wr b d) s = s.accept c := by
  simp only [mmioRows, List.mem_append] at hr
  obtain ((((hr | hr) | hr) | hr) | hr) | hr := hr <;> fin_cases hr <;> exact ⟨⟨_, _, rfl⟩, ⟨_, rfl⟩⟩

theorem exec_decodeRead_delivers (w : EventWord) (s : State) :
    ∃ v c, exec (decodeRead w) s = s.deliver v c := by
  unfold decodeRead
  split
  next r hr => exact (exec_row_answers (mem_of_mmioRow_eq_some hr) _ 0 s).1
  next => exact ⟨_, _, rfl⟩

theorem exec_decodeWrite_accepts (w : EventWord) (s : State) : ∃ c, exec (decodeWrite w) s = s.accept c := by
  unfold decodeWrite
  split
  next r hr => exact (exec_row_answers (mem_of_mmioRow_eq_some hr) _ _ s).2
  next => exact ⟨_, rfl⟩

/-- The event that a word spells answers as the word's class says. -/
theorem exec_answers_of_decode {w : EventWord} {i : Instr} (h : decode w = .ok i) (s : State) :
    Answers (clsField w) s (exec i s) := by
  obtain ⟨-, ⟨hc, -, rfl⟩ | ⟨hc, rfl⟩ | ⟨hc, -, -, rfl⟩ | ⟨hc, -, rfl⟩ | ⟨hc, rfl⟩⟩ := decode_ok_cases h <;> rw [hc]
  · obtain ⟨v, c, he⟩ := exec_decodeRead_delivers w s
    exact he ▸ .reads (by decide) v c
  · obtain ⟨c, he⟩ := exec_decodeWrite_accepts w s
    exact he ▸ .silent (by decide) c
  · exact .silent (by decide) _
  · exact .reads (by decide) _ _
  · exact .silent (by decide) _

/-- Every event answers as the class of its word says, an out-of-range event whatever its address. -/
theorem exec_answers (i : Instr) (s : State) : Answers (clsField (encode i)) s (exec i s) := by
  cases i with
  | rdOutOfRange a => exact .reads (by simp [encode]) _ _
  | wrOutOfRange a d => exact .silent (by simp [encode]) _
  | _ => exact exec_answers_of_decode (decode_encode _ rfl) s

/-! The addresses without behaviour (R172 to R175) -/

/-- The events of an unmapped address have no behaviour (R174, R175). -/
theorem exec_unmappedRow {r : MmioRow} (hr : r ∈ unmappedRows) (b d : Byte) (s : State) :
    exec (r.rd b) s = s.openBus ∧ exec (r.wr b d) s = s.ignoreWrite := by
  fin_cases hr <;> exact ⟨rfl, rfl⟩

/-- An address outside 0x4800 to 0x4842, or unmapped inside (R146, R172 to R175). -/
def NoBehaviour (a : Addr16) : Prop :=
  a.toNat < 0x4800 ∨ 0x4842 < a.toNat ∨ (0x480D ≤ a.toNat ∧ a.toNat ≤ 0x480F) ∨
    (0x481B ≤ a.toNat ∧ a.toNat ≤ 0x481F) ∨ (0x4835 ≤ a.toNat ∧ a.toNat ≤ 0x483F)

/-- The registers' addresses are the rest of the block (R145). -/
theorem not_noBehaviour_of_register :
    ∀ r ∈ decompRows ++ portRows ++ mathRows ++ mmuRows ++ rtcRows, ¬ NoBehaviour r.addr := by
  unfold NoBehaviour
  decide

/-- An address without behaviour selects at most an unmapped row. -/
theorem mem_unmappedRows_of_noBehaviour {a : Addr16} (ha : NoBehaviour a) {r : MmioRow}
    (h : mmioRow a = some r) : r ∈ unmappedRows := by
  refine (List.mem_append.1 (mem_of_mmioRow_eq_some h)).resolve_left fun hr => ?_
  exact not_noBehaviour_of_register r hr (addr_of_mmioRow_eq_some h ▸ ha)

theorem step_rdWord_noBehaviour {s : State} {b m : Byte} {a : Addr16} {rest : List Input} (ha : NoBehaviour a)
    (hq : s.inbox = .event (rdWord b a) m :: rest) : step s = (s.takeEvent rest m).openBus := by
  rw [step_event s _ m rest _ hq (decode_rdWord b a)]
  split
  next r hr => exact (exec_unmappedRow (mem_unmappedRows_of_noBehaviour ha hr) b 0 _).1
  next => rfl

theorem step_wrWord_noBehaviour {s : State} {b d m : Byte} {a : Addr16} {rest : List Input} (ha : NoBehaviour a)
    (hq : s.inbox = .event (wrWord b d a) m :: rest) : step s = (s.takeEvent rest m).ignoreWrite := by
  rw [step_event s _ m rest _ hq (decode_wrWord b d a)]
  split
  next r hr => exact (exec_unmappedRow (mem_unmappedRows_of_noBehaviour ha hr) b d _).2
  next => rfl

/-! The reads without side effect (R179) -/

/-- In the state `s` the event is a read without side effect: it observes a byte of the core, so that every machine of
the same core answers the same byte. -/
def ObservesCore (i : Instr) (s : State) : Prop :=
  ∃ v : Byte, exec i s = s.observe v ∧ ∀ u : State, u.chip = s.chip → exec i u = u.observe v

end Sys2Proof.Machine
end

section
/-! The statements about the dispatcher, settled. -/

namespace Sys2Proof.Machine

/-- Settles O7: an event delivers a byte or accepts without one, and the class of its word says which. -/
theorem everyEventCompletes : Obligations.EveryEventCompletes := by
  intro i s
  have h := exec_answers i s
  generalize exec i s = o at h ⊢
  cases h with
  | reads hcls v c => exact ⟨_, s.deliver_eq v c, rfl, rfl, rfl, iff_of_true rfl hcls⟩
  | silent hcls c => exact ⟨_, s.accept_eq c, rfl, rfl, rfl, iff_of_false Bool.false_ne_true hcls⟩

/-- Settles O9: such an address selects an unmapped row or none, and neither has a behaviour. -/
theorem addressesWithoutBehaviour : Obligations.AddressesWithoutBehaviour := by
  intro s b d m a16 rest ha
  simp only [fields_eq_eventWord]
  exact ⟨fun hq => step_rdWord_noBehaviour ha hq, fun hq => step_wrWord_noBehaviour ha hq⟩

/-- Settles O12: each of these reads observes the core, and the first read leaves the core as it was. -/
theorem plainReadsRepeat : Obligations.PlainReadsRepeat := by
  intro b s i hi
  have hobs : ObservesCore i s := by fin_cases hi <;> exact ⟨_, rfl, fun u hu => hu ▸ rfl⟩
  obtain ⟨v, hfirst, hagain⟩ := hobs
  exact ⟨v, hfirst, fun m n => hagain { s with ret := some v, mdr := m, draw := n } rfl⟩

/-- Settles O8: the two lists are the events of the unmapped rows and the out-of-range one. -/
theorem eventsWithoutBehaviour : Obligations.EventsWithoutBehaviour := by
  refine fun b d a s => ⟨fun i hi => ?_, fun i hi => ?_⟩
  · obtain hi | hi := List.mem_append.1 (show i ∈ unmappedRows.map (·.rd b) ++ [.rdOutOfRange a] from hi)
    · obtain ⟨r, hr, rfl⟩ := List.mem_map.1 hi
      exact (exec_unmappedRow hr b d s).1
    · cases List.mem_singleton.1 hi
      exact s.openBus_eq
  · obtain hi | hi := List.mem_append.1 (show i ∈ unmappedRows.map (·.wr b d) ++ [.wrOutOfRange a d] from hi)
    · obtain ⟨r, hr, rfl⟩ := List.mem_map.1 hi
      exact (exec_unmappedRow hr b d s).2
    · cases List.mem_singleton.1 hi
      exact s.ignoreWrite_eq

/-- Settles O11: each of these registers' writes is the shared operation that changes nothing. -/
theorem readOnlyWritesChangeNothing : Obligations.ReadOnlyWritesChangeNothing := by
  intro b d s i hi
  fin_cases hi <;> exact s.ignoreWrite_eq

end Sys2Proof.Machine
end

section
/-! SUPPORT. The decompression front-end, said once (41_decompression.md R200 to R225): the events that replace it, the
status byte, the visible counter, and the session that a descriptor describes. -/

namespace Sys2Proof.Machine

/-! The events that replace the front-end -/

theorem State.accept_setDec (s : State) (u : Decomp) :
    s.accept (s.chip.setDec u) = .next { s with chip.dec := u, ret := none } := rfl

theorem State.deliver_setDec (s : State) (v : Byte) (u : Decomp) :
    s.deliver v (s.chip.setDec u) = .next { s with chip.dec := u, ret := some v } := rfl

/-! The status byte and the counter -/

/-- A read keeps the low seven bits of the status byte and clears the top one (R224). -/
theorem dstatAfterRead_eq (v : Byte) : dstatAfterRead v = 0#1 ++ v.extractLsb' 0 7 := by
  have hlow : (dstatAfterRead v).toNat = v.toNat % 2 ^ 7 :=
    (BitVec.toNat_and v 0x7F).trans (Nat.and_two_pow_sub_one_eq_mod v.toNat 7)
  apply BitVec.eq_of_toNat_eq
  rw [hlow, toNat_append_eq, toNat_slice, Nat.pow_zero, Nat.div_one, BitVec.toNat_zero, Nat.zero_mul, Nat.zero_add]

theorem exec_rdDstat (b : Byte) (s : State) :
    exec (.rdDstat b) s =
      .next { s with chip.dec.dstat := dstatAfterRead s.chip.dec.dstat, ret := some s.chip.dec.dstat } :=
  s.deliver_setDec _ _

/-- With no bit set there is nothing for a read to clear (R224). -/
theorem exec_rdDstat_of_dstat_zero (b : Byte) {s : State} (h : s.chip.dec.dstat = 0) :
    exec (.rdDstat b) s = .next { s with ret := some 0 } := by
  have hkeep : dstatAfterRead s.chip.dec.dstat = s.chip.dec.dstat := by rw [h]; rfl
  rw [exec_rdDstat, hkeep]
  exact congrArg (fun v : Byte => Host.Outcome.next { s with ret := some v }) h

/-- The decrement wraps at 16 bits (R200). -/
theorem countDown_dlen_toNat (u : Decomp) :
    (countDown u).dlen.toNat = (u.dlen.toNat + (2 ^ 16 - 1)) % 2 ^ 16 := by
  rw [countDown, BitVec.toNat_sub, Nat.add_comm]
  rfl

/-! The session of a descriptor (R209, R103) -/

/-- The descriptor's bytes are consecutive modulo 2^24: one that crosses the last address goes on at address 0. -/
theorem descriptorAddr_add (u : Decomp) (k : Nat) :
    descriptorAddr u + BitVec.ofNat 24 k = BitVec.ofNat 24 (u.dtbl.toNat + 4 * u.didx.toNat + k) := by
  simp [descriptorAddr, BitVec.ofNat_add, BitVec.ofNat_mul]

/-- Byte `k` of the descriptor that the front-end selects, as a number. -/
def descriptorByte (rom : Addr24 → Byte) (u : Decomp) (k : Nat) : Nat :=
  (rom (BitVec.ofNat 24 (u.dtbl.toNat + 4 * u.didx.toNat + k))).toNat

theorem toNat_rom_descriptorAddr_add (rom : Addr24 → Byte) (u : Decomp) (k : Nat) :
    (rom (descriptorAddr u + BitVec.ofNat 24 k)).toNat = descriptorByte rom u k := by
  rw [descriptorAddr_add, descriptorByte]

/-- Bits 7:2 of the first descriptor byte are ignored. -/
theorem describeSession_mode_toNat (rom : Addr24 → Byte) (u : Decomp) :
    (describeSession rom u).mode.toNat = descriptorByte rom u 0 % 4 := by
  rw [← toNat_rom_descriptorAddr_add, BitVec.add_zero]
  exact BitVec.toNat_setWidth 2 _

theorem toNat_threeBytes (x y z : Byte) :
    (x ++ y ++ z).toNat = x.toNat * 2 ^ 16 + y.toNat * 2 ^ 8 + z.toNat := by
  rw [toNat_append_eq, toNat_append_eq]
  omega

/-- The three offset bytes are big-endian. -/
theorem describeSession_offset_toNat (rom : Addr24 → Byte) (u : Decomp) :
    (describeSession rom u).offset.toNat =
      descriptorByte rom u 1 * 2 ^ 16 + descriptorByte rom u 2 * 2 ^ 8 + descriptorByte rom u 3 := by
  have hbyte := toNat_rom_descriptorAddr_add rom u
  rw [← hbyte 1, ← hbyte 2, ← hbyte 3]
  exact toNat_threeBytes _ _ _

theorem describeSession_length (rom : Addr24 → Byte) (u : Decomp) :
    (describeSession rom u).length = u.dlen.toNat * 2 ^ (describeSession rom u).mode.toNat :=
  Nat.shiftLeft_eq _ _

end Sys2Proof.Machine
end

section
/-! The statements about the decompression front-end, settled. -/

namespace Sys2Proof.Machine

/-- Settles O16: the session is the one that the stored index's descriptor describes. -/
theorem indexWriteStartsSession : Obligations.IndexWriteStartsSession := by
  intro b d s
  let u : Decomp := { s.chip.dec with didx := d }
  exact ⟨describeSession s.rom u, s.accept_setDec _, describeSession_mode_toNat s.rom u,
    describeSession_offset_toNat s.rom u, describeSession_length s.rom u, describeSession_length_lt s.rom u⟩

/-- Settles O13: each of these reads observes a byte lane or a stored byte. -/
theorem decompressionRegisterReads : Obligations.DecompressionRegisterReads :=
  fun _ s => ⟨s.observe_eq _, s.observe_eq _, s.observe_eq _, s.observe_eq _, s.observe_eq _, s.observe_eq _,
    s.observe_eq _, s.observe_eq _, s.observe_eq _, s.observe_eq _, s.observe_eq _⟩

/-- Settles O14: each of these writes replaces one byte lane or one stored byte of the front-end. -/
theorem decompressionRegisterWrites : Obligations.DecompressionRegisterWrites := by
  intro b d s
  rw [← setLane_low24, ← setLane_mid24, ← setLane_high24, ← setLane_low16, ← setLane_high16]
  exact ⟨s.accept_setDec _, s.accept_setDec _, s.accept_setDec _, s.accept_setDec _, s.accept_setDec _,
    s.accept_setDec _, s.accept_setDec _, s.accept_setDec _, s.accept_setDec _, s.accept_setDec _⟩

/-- Settles O15: the counter goes down whatever session is recorded, if any. -/
theorem ddataReadCountsDown : Obligations.DdataReadCountsDown :=
  fun _ s => ⟨_, s.deliver_setDec _ _, countDown_dlen_toNat s.chip.dec⟩

/-- Settles O17: where bits 6:0 are 0 the first read leaves no bit set, so the second returns 0x00. -/
theorem dstatReadClearsBusy : Obligations.DstatReadClearsBusy := by
  refine fun b s => ⟨?_, fun hlow t ht => ?_⟩
  · rw [← dstatAfterRead_eq]
    exact exec_rdDstat b s
  · rw [exec_rdDstat] at ht
    cases ht
    exact exec_rdDstat_of_dstat_zero b hlow

end Sys2Proof.Machine
end

section
/-! SUPPORT. The data port, said once (42_data_port.md R240 to R271): the events that replace it, a cursor's move as a
number, and runs over queued accesses. -/

namespace Sys2Proof.Machine

/-! The events that replace the data port -/

theorem State.accept_setPort (s : State) (u : DataPort) :
    s.accept (s.chip.setPort u) = .next { s with chip.port := u, ret := none } := rfl

theorem State.deliver_setPort (s : State) (v : Byte) (u : DataPort) :
    s.deliver v (s.chip.setPort u) = .next { s with chip.port := u, ret := some v } := rfl

theorem exec_rdPadata (b : Byte) (s : State) :
    exec (.rdPadata b) s =
      .next { s with chip.port := stepA s.rom s.chip.port, ret := some s.chip.port.visA } :=
  s.deliver_setPort _ _

theorem exec_wrPadata (b d : Byte) (s : State) :
    exec (.wrPadata b d) s = .next { s with chip.port := stepA s.rom s.chip.port, ret := none } :=
  s.accept_setPort _

theorem exec_rdPbdata (b : Byte) (s : State) :
    exec (.rdPbdata b) s =
      .next { s with chip.port := tryIncB s.rom s.chip.port, ret := some s.chip.port.visB } :=
  s.deliver_setPort _ _

theorem exec_wrPbdata (b d : Byte) (s : State) :
    exec (.wrPbdata b d) s = .next { s with chip.port := tryIncB s.rom s.chip.port, ret := none } :=
  s.accept_setPort _

/-! A cursor's move (R46, R260, R263) -/

/-- A move by `n`, as a number modulo 2^24. -/
theorem moveCursor_eq_ofNat (backward : Bool) (cur : Addr24) {amount : Addr24} {n : Nat} (h : amount.toNat = n) :
    moveCursor backward cur amount =
      BitVec.ofNat 24 (if backward = true then cur.toNat + (2 ^ 24 - n) else cur.toNat + n) := by
  have hlt := amount.isLt
  apply BitVec.eq_of_toNat_eq
  cases backward with
  | false => rw [moveCursor_forward, h, BitVec.toNat_ofNat, if_neg Bool.false_ne_true]
  | true => rw [moveCursor_backward, h, BitVec.toNat_ofNat, if_pos rfl, Nat.add_sub_assoc (by omega)]

/-- Where cursor A's next step leads (R260). -/
def stepTargetA (p : DataPort) : Addr24 :=
  BitVec.ofNat 24 (if p.pmode.getLsbD 0 = true then p.curA.toNat + (2 ^ 24 - 1) else p.curA.toNat + 1)

theorem stepA_eq_target (rom : Addr24 → Byte) (p : DataPort) :
    stepA rom p = { p with curA := stepTargetA p, visA := rom (stepTargetA p) } := by
  rw [stepA_eq, moveCursor_eq_ofNat _ _ (show (1 : Addr24).toNat = 1 from rfl)]
  rfl

/-- Where cursor B's increment leads (R263). -/
def incrementTargetB (p : DataPort) : Addr24 :=
  BitVec.ofNat 24 (if p.pmode.getLsbD 1 = true then p.curB.toNat + (2 ^ 24 - p.incB.toNat)
    else p.curB.toNat + p.incB.toNat)

/-- Both outcomes of an access of cursor B's data register (R263). -/
theorem tryIncB_eq_target (rom : Addr24 → Byte) (p : DataPort) :
    tryIncB rom p =
      if p.latLo = true ∧ p.latHi = true then
        { p with curB := incrementTargetB p, visB := rom (incrementTargetB p), latLo := false, latHi := false }
      else p := by
  have hinc : (p.incB.setWidth 24).toNat = p.incB.toNat := BitVec.toNat_setWidth_of_le (by decide)
  split
  next h =>
    rw [tryIncB_fires _ _ h, moveCursor_eq_ofNat _ _ hinc]
    rfl
  next h => exact tryIncB_idle _ _ h

/-- An access leaves at least one latch clear, so the next one does nothing, whatever byte it would see. -/
theorem tryIncB_tryIncB (rom rom' : Addr24 → Byte) (p : DataPort) :
    tryIncB rom' (tryIncB rom p) = tryIncB rom p := by
  by_cases h : p.latLo = true ∧ p.latHi = true
  · rw [tryIncB_fires _ _ h]
    exact tryIncB_idle _ _ (by simp)
  · rw [tryIncB_idle _ _ h, tryIncB_idle _ _ h]

/-! Runs over queued inputs -/

/-- A step that takes the word of a well-formed event runs it. -/
theorem step_encode {s : State} {m : Byte} {rest : List Input} (i : Instr) (hi : i.wellFormed = true)
    (hq : s.inbox = .event (encode i) m :: rest) : step s = exec i (s.takeEvent rest m) :=
  step_event s _ m rest i hq (decode_encode i hi)

/-- The induction over a queue: what each of the inputs `xs` carries from `k` inputs taken to `k + 1`, the run over all
of them carries from none to their number. -/
theorem run_queue {R : Nat → State → Prop} {xs rest : List Input} {s : State}
    (hstep : ∀ k u x tail, x ∈ xs → u.inbox = x :: tail → R k u →
      ∃ v, step u = .next v ∧ v.inbox = tail ∧ R (k + 1) v)
    (hq : s.inbox = xs ++ rest) (h0 : R 0 s) :
    ∃ t, Host.Core.run Sys2Proof.core xs.length s = .next t ∧ t.inbox = rest ∧ R xs.length t := by
  induction xs generalizing s R with
  | nil => exact ⟨s, rfl, hq, h0⟩
  | cons x xs ih =>
    obtain ⟨u, hu, huq, hu1⟩ := hstep 0 s x (xs ++ rest) List.mem_cons_self hq h0
    obtain ⟨t, ht, htq, hR⟩ := ih (R := fun k => R (k + 1))
      (fun k v y tail hy => hstep (k + 1) v y tail (List.mem_cons_of_mem x hy)) huq hu1
    exact ⟨t, (run_succ _ _ _ hu).trans ht, htq, hR⟩

/-! Reads of PADATA in a row (R260) -/

/-- The state `t` is what `n` reads of PADATA make of the state `s`. -/
structure AfterReadsOfPadata (s : State) (n : Nat) (t : State) : Prop where
  draw : t.draw = s.draw + n
  frame : t.chip = { s.chip with port.curA := t.chip.port.curA, port.visA := t.chip.port.visA }
  cursor : t.chip.port.curA.toNat =
    (s.chip.port.curA.toNat + (if s.chip.port.pmode.getLsbD 0 = true then n * (2 ^ 24 - 1) else n)) % 2 ^ 24
  visible : n ≠ 0 → t.chip.port.visA = dromRead Config.params t.draw s.chip.mmu.msize t.chip.port.curA

theorem AfterReadsOfPadata.zero (s : State) : AfterReadsOfPadata s 0 s where
  draw := rfl
  frame := rfl
  cursor := by
    have := s.chip.port.curA.isLt
    split <;> omega
  visible := fun h => absurd rfl h

/-- The next read moves the cursor once more. -/
theorem AfterReadsOfPadata.read {s t : State} {n : Nat} (h : AfterReadsOfPadata s n t) (tail : List Input)
    (b m : Byte) :
    ∃ v, exec (.rdPadata b) (t.takeEvent tail m) = .next v ∧ v.inbox = tail ∧ AfterReadsOfPadata s (n + 1) v := by
  have hmode : t.chip.port.pmode = s.chip.port.pmode := by rw [h.frame]
  have hmmu : t.chip.mmu = s.chip.mmu := by rw [h.frame]
  have hcursor := h.cursor
  refine ⟨_, exec_rdPadata b _, rfl, ⟨congrArg (· + 1) h.draw, ?_, ?_, fun _ => ?_⟩⟩
  · rw [stepA_eq_target, State.takeEvent_chip, h.frame]
  · rw [stepA_eq_target]
    simp only [State.takeEvent_chip, stepTargetA, hmode, BitVec.toNat_ofNat]
    split_ifs at hcursor ⊢ <;> omega
  · rw [stepA_eq_target, ← hmmu]
    rfl

/-! Accesses of PBDATA in a row (R263) -/

/-- The event of an access of PBDATA: a read (true) or a write (false). -/
def accessPbdata (b d : Byte) (isRead : Bool) : Instr := if isRead then .rdPbdata b else .wrPbdata b d

theorem accessPbdata_wellFormed (b d : Byte) (isRead : Bool) : (accessPbdata b d isRead).wellFormed = true := by
  cases isRead <;> rfl

/-- A read and a write try the increment alike. -/
theorem exec_accessPbdata (b d : Byte) (isRead : Bool) (s : State) :
    ∃ r, exec (accessPbdata b d isRead) s =
      .next { s with chip := s.chip.setPort (tryIncB s.rom s.chip.port), ret := r } := by
  cases isRead with
  | true => exact ⟨_, exec_rdPbdata b s⟩
  | false => exact ⟨_, exec_wrPbdata b d s⟩

/-- The state `t` is what `n` accesses of PBDATA make of the state `s`: the first one tries the increment. -/
structure AfterAccessesOfPbdata (s : State) (n : Nat) (t : State) : Prop where
  draw : t.draw = s.draw + n
  chip : t.chip = if n = 0 then s.chip
    else s.chip.setPort (tryIncB (dromRead Config.params (s.draw + 1) s.chip.mmu.msize) s.chip.port)

theorem AfterAccessesOfPbdata.zero (s : State) : AfterAccessesOfPbdata s 0 s := ⟨rfl, rfl⟩

/-- The first access tries the increment; a later one finds a latch clear and leaves the core alone. -/
theorem AfterAccessesOfPbdata.access {s t : State} {n : Nat} (h : AfterAccessesOfPbdata s n t) (tail : List Input)
    (b d m : Byte) (isRead : Bool) :
    ∃ v, exec (accessPbdata b d isRead) (t.takeEvent tail m) = .next v ∧ v.inbox = tail ∧
      AfterAccessesOfPbdata s (n + 1) v := by
  obtain ⟨r, hr⟩ := exec_accessPbdata b d isRead (t.takeEvent tail m)
  refine ⟨_, hr, rfl, ⟨congrArg (· + 1) h.draw, ?_⟩⟩
  rw [if_neg (Nat.succ_ne_zero n), State.takeEvent_chip]
  have hchip := h.chip
  cases n with
  | zero =>
    have hrom : (t.takeEvent tail m).rom = dromRead Config.params (s.draw + 1) s.chip.mmu.msize := by
      funext x
      rw [State.rom, State.takeEvent_draw, State.takeEvent_chip, h.draw, hchip, if_pos rfl]
    rw [hrom, hchip, if_pos rfl]
  | succ n =>
    rw [hchip, if_neg (Nat.succ_ne_zero n), Chip.setPort_port, tryIncB_tryIncB]
    rfl

/-! The two cursors apart (R264): each cursor's part of the data port, and the events that act on that part alone. -/

/-- What cursor A's events work on: its address, its visible byte and its direction. -/
structure CursorA where
  cur : Addr24
  vis : Byte
  backward : Bool

/-- What cursor B's events work on: its address, its visible byte, its increment with the latches, and its direction. -/
structure CursorB where
  cur : Addr24
  vis : Byte
  inc : BitVec 16
  latLo : Bool
  latHi : Bool
  backward : Bool

/-- Cursor A's part of the data port. -/
def DataPort.cursorA (p : DataPort) : CursorA := ⟨p.curA, p.visA, dirA p⟩

/-- Cursor B's part of the data port. -/
def DataPort.cursorB (p : DataPort) : CursorB := ⟨p.curB, p.visB, p.incB, p.latLo, p.latHi, dirB p⟩

/-- The data port with cursor A's part replaced; the direction is the shared register's, which stays. -/
def DataPort.setCursorA (p : DataPort) (c : CursorA) : DataPort := { p with curA := c.cur, visA := c.vis }

/-- The data port with cursor B's part replaced; the direction is the shared register's, which stays. -/
def DataPort.setCursorB (p : DataPort) (c : CursorB) : DataPort :=
  { p with curB := c.cur, visB := c.vis, incB := c.inc, latLo := c.latLo, latHi := c.latHi }

/-- Cursor A at an address, its byte refreshed (R261). -/
def CursorA.seek (rom : Addr24 → Byte) (a : Addr24) (c : CursorA) : CursorA := { c with cur := a, vis := rom a }

/-- `StepA()` on cursor A alone. -/
def CursorA.step (rom : Addr24 → Byte) (c : CursorA) : CursorA :=
  c.seek rom (moveCursor c.backward c.cur 1)

/-- Cursor B at an address, its byte refreshed (R262). -/
def CursorB.seek (rom : Addr24 → Byte) (a : Addr24) (c : CursorB) : CursorB := { c with cur := a, vis := rom a }

/-- `TryIncB()` on cursor B alone. -/
def CursorB.tryInc (rom : Addr24 → Byte) (c : CursorB) : CursorB :=
  if c.latLo = true ∧ c.latHi = true then
    { c.seek rom (moveCursor c.backward c.cur (c.inc.setWidth 24)) with latLo := false, latHi := false }
  else c

theorem stepA_eq_setCursorA (rom : Addr24 → Byte) (p : DataPort) :
    stepA rom p = p.setCursorA (p.cursorA.step rom) := rfl

theorem tryIncB_eq_setCursorB (rom : Addr24 → Byte) (p : DataPort) :
    tryIncB rom p = p.setCursorB (p.cursorB.tryInc rom) := by
  by_cases h : p.cursorB.latLo = true ∧ p.cursorB.latHi = true
  · rw [tryIncB_fires _ _ h, CursorB.tryInc, if_pos h]
    rfl
  · rw [tryIncB_idle _ _ h, CursorB.tryInc, if_neg h]
    rfl

/-- The event replaces cursor A's part by what `f` makes of it and returns what `g` reads in it. -/
def ActsOnCursorA (i : Instr) (f : (Addr24 → Byte) → CursorA → CursorA) (g : CursorA → Option Byte) : Prop :=
  ∀ s : State, exec i s = .next { s with
    chip.port := s.chip.port.setCursorA (f s.rom s.chip.port.cursorA)
    ret := g s.chip.port.cursorA }

/-- The event replaces cursor B's part by what `f` makes of it and returns what `g` reads in it. -/
def ActsOnCursorB (i : Instr) (f : (Addr24 → Byte) → CursorB → CursorB) (g : CursorB → Option Byte) : Prop :=
  ∀ s : State, exec i s = .next { s with
    chip.port := s.chip.port.setCursorB (f s.rom s.chip.port.cursorB)
    ret := g s.chip.port.cursorB }

theorem actsOnCursorA {i : Instr} {b d : Byte}
    (hi : i ∈ [Instr.rdPadata b, .wrPadata b d, .rdPaadr0 b, .wrPaadr0 b d, .rdPaadr1 b, .wrPaadr1 b d, .rdPaadr2 b,
      .wrPaadr2 b d]) : ∃ f g, ActsOnCursorA i f g := by
  fin_cases hi
  · exact ⟨CursorA.step, fun c => some c.vis, fun s => stepA_eq_setCursorA s.rom s.chip.port ▸ exec_rdPadata b s⟩
  · exact ⟨CursorA.step, fun _ => none, fun s => stepA_eq_setCursorA s.rom s.chip.port ▸ exec_wrPadata b d s⟩
  · exact ⟨fun _ c => c, fun c => some (lane 0 c.cur), fun _ => rfl⟩
  · exact ⟨fun rom c => c.seek rom (setLane 0 c.cur d), fun _ => none, fun _ => rfl⟩
  · exact ⟨fun _ c => c, fun c => some (lane 1 c.cur), fun _ => rfl⟩
  · exact ⟨fun rom c => c.seek rom (setLane 1 c.cur d), fun _ => none, fun _ => rfl⟩
  · exact ⟨fun _ c => c, fun c => some (lane 2 c.cur), fun _ => rfl⟩
  · exact ⟨fun rom c => c.seek rom (setLane 2 c.cur d), fun _ => none, fun _ => rfl⟩

theorem actsOnCursorB {i : Instr} {b d : Byte}
    (hi : i ∈ [Instr.rdPbdata b, .wrPbdata b d, .rdPbadr0 b, .wrPbadr0 b d, .rdPbadr1 b, .wrPbadr1 b d, .rdPbadr2 b,
      .wrPbadr2 b d, .rdPbinc0 b, .wrPbinc0 b d, .rdPbinc1 b, .wrPbinc1 b d]) : ∃ f g, ActsOnCursorB i f g := by
  fin_cases hi
  · exact ⟨CursorB.tryInc, fun c => some c.vis,
      fun s => tryIncB_eq_setCursorB s.rom s.chip.port ▸ exec_rdPbdata b s⟩
  · exact ⟨CursorB.tryInc, fun _ => none, fun s => tryIncB_eq_setCursorB s.rom s.chip.port ▸ exec_wrPbdata b d s⟩
  · exact ⟨fun _ c => c, fun c => some (lane 0 c.cur), fun _ => rfl⟩
  · exact ⟨fun rom c => c.seek rom (setLane 0 c.cur d), fun _ => none, fun _ => rfl⟩
  · exact ⟨fun _ c => c, fun c => some (lane 1 c.cur), fun _ => rfl⟩
  · exact ⟨fun rom c => c.seek rom (setLane 1 c.cur d), fun _ => none, fun _ => rfl⟩
  · exact ⟨fun _ c => c, fun c => some (lane 2 c.cur), fun _ => rfl⟩
  · exact ⟨fun rom c => c.seek rom (setLane 2 c.cur d), fun _ => none, fun _ => rfl⟩
  · exact ⟨fun _ c => c, fun c => some (lane 0 c.inc), fun _ => rfl⟩
  · exact ⟨fun _ c => { c with inc := setLane 0 c.inc d, latLo := true }, fun _ => none, fun _ => rfl⟩
  · exact ⟨fun _ c => c, fun c => some (lane 1 c.inc), fun _ => rfl⟩
  · exact ⟨fun _ c => { c with inc := setLane 1 c.inc d, latHi := true }, fun _ => none, fun _ => rfl⟩

/-- Two events of one number see the same data ROM (R104). -/
theorem State.rom_congr {s s' : State} (hmmu : s'.chip.mmu = s.chip.mmu) (hdraw : s'.draw = s.draw) :
    s'.rom = s.rom := by
  funext x
  rw [State.rom, State.rom, hmmu, hdraw]

end Sys2Proof.Machine
end

section
/-! The statements about the data port, settled. -/

namespace Sys2Proof.Machine

/-- Settles O21: both accesses step the cursor; the read delivers the byte seen before. -/
theorem padataMovesCursorA : Obligations.PadataMovesCursorA := by
  intro b d s
  rw [exec_rdPadata, exec_wrPadata, stepA_eq_target]
  exact ⟨rfl, rfl⟩

/-- Settles O22: both accesses try the increment; the read delivers the byte seen before. -/
theorem pbdataFiresOnlyWithBothLatches : Obligations.PbdataFiresOnlyWithBothLatches := by
  intro b d s
  rw [exec_rdPbdata, exec_wrPbdata, tryIncB_eq_target]
  exact ⟨rfl, rfl⟩

/-- Settles O23, by induction over the queued reads. -/
theorem readsOfPadataMoveCursorAByTheirNumber : Obligations.ReadsOfPadataMoveCursorAByTheirNumber := by
  intro n b m s rest hq
  rw [fields_eq_eventWord] at hq
  have hread (k : Nat) (u : State) (x : Input) (tail : List Input)
      (hx : x ∈ List.replicate n (Input.event (encode (.rdPadata b)) m)) (huq : u.inbox = x :: tail)
      (hu : AfterReadsOfPadata s k u) :
      ∃ v, step u = .next v ∧ v.inbox = tail ∧ AfterReadsOfPadata s (k + 1) v := by
    rw [List.eq_of_mem_replicate hx] at huq
    rw [step_encode _ rfl huq]
    exact hu.read tail b m
  obtain ⟨t, ht, htq, hafter⟩ := run_queue hread hq (.zero s)
  rw [List.length_replicate] at ht hafter
  exact ⟨t, ht, htq, hafter.frame, hafter.cursor, fun hn => hafter.draw ▸ hafter.visible hn⟩

/-- Settles O24, by induction over the queued accesses: after the first one a latch is clear. -/
theorem oneIncrementPerDoubleWrite : Obligations.OneIncrementPerDoubleWrite := by
  intro accesses b d m s rest hq
  have hwords (r : Bool) :
      (if r then Input.event (0b000#3 ++ 0#5 ++ b ++ 0x481A#16 ++ 0#8) m
        else Input.event (0b001#3 ++ 0#5 ++ b ++ 0x481A#16 ++ d) m) =
      .event (encode (accessPbdata b d r)) m := by
    simp only [fields_eq_eventWord]
    cases r <;> rfl
  simp only [hwords] at hq
  have haccess (k : Nat) (u : State) (x : Input) (tail : List Input)
      (hx : x ∈ accesses.map fun r => Input.event (encode (accessPbdata b d r)) m) (huq : u.inbox = x :: tail)
      (hu : AfterAccessesOfPbdata s k u) :
      ∃ v, step u = .next v ∧ v.inbox = tail ∧ AfterAccessesOfPbdata s (k + 1) v := by
    obtain ⟨r, -, rfl⟩ := List.mem_map.1 hx
    rw [step_encode _ (accessPbdata_wellFormed b d r) huq]
    exact hu.access tail b d m r
  obtain ⟨t, ht, htq, hafter⟩ := run_queue haccess hq (.zero s)
  rw [List.length_map] at ht hafter
  refine ⟨t, ht, htq, hafter.chip.trans ?_⟩
  rw [tryIncB_eq_target]
  cases accesses with
  | nil => simp
  | cons r rs =>
    simp only [List.length_cons, Nat.succ_ne_zero, if_false, ne_eq, reduceCtorEq, not_false_eq_true, and_true]
    by_cases h : s.chip.port.latLo = true ∧ s.chip.port.latHi = true
    · rw [if_pos h, if_pos h]
      rfl
    · rw [if_neg h, if_neg h]
      rfl

/-- Settles O25: each cursor's events act on that cursor's part of the port, as a function of that part and the data
ROM. -/
theorem cursorsAreIndependent : Obligations.CursorsAreIndependent := by
  intro b d i s s' t t' h h' hmmu hdraw
  have hrom := State.rom_congr hmmu hdraw
  constructor
  · intro hi
    obtain ⟨f, g, hact⟩ := actsOnCursorA hi
    cases (hact s).symm.trans h
    cases (hact s').symm.trans h'
    refine ⟨rfl, fun hcur hvis hdir => ?_⟩
    have hsame : s'.chip.port.cursorA = s.chip.port.cursorA := by
      simp only [DataPort.cursorA, dirA, hcur, hvis, hdir]
    rw [hsame, hrom]
    exact ⟨rfl, rfl, rfl⟩
  · intro hi
    obtain ⟨f, g, hact⟩ := actsOnCursorB hi
    cases (hact s).symm.trans h
    cases (hact s').symm.trans h'
    refine ⟨rfl, rfl, rfl, fun hcur hvis hinc hlo hhi hdir => ?_⟩
    have hsame : s'.chip.port.cursorB = s.chip.port.cursorB := by
      simp only [DataPort.cursorB, dirB, hcur, hvis, hinc, hlo, hhi, hdir]
    rw [hsame, hrom]
    exact ⟨rfl, rfl, rfl, rfl, rfl, rfl⟩

/-- Settles O18: each of these reads observes a byte lane, PMODE's its two bits. -/
theorem dataPortRegisterReads : Obligations.DataPortRegisterReads := by
  intro b s
  have hmode : asByte s.chip.port.pmode = 0#6 ++ s.chip.port.pmode :=
    BitVec.setWidth_eq_append (by decide)
  exact ⟨s.observe_eq _, s.observe_eq _, s.observe_eq _, s.observe_eq _, s.observe_eq _, s.observe_eq _,
    s.observe_eq _, s.observe_eq _, hmode ▸ s.observe_eq _⟩

/-- Settles O19: each of these writes replaces one byte lane of a cursor and refreshes its byte. -/
theorem cursorAddressWritesRefresh : Obligations.CursorAddressWritesRefresh := by
  intro b d s
  simp only [← setLane_low24, ← setLane_mid24, ← setLane_high24]
  exact ⟨s.accept_setPort _, s.accept_setPort _, s.accept_setPort _, s.accept_setPort _, s.accept_setPort _,
    s.accept_setPort _⟩

/-- Settles O20: the half replaces one byte lane, the commit keeps the two low bits of its byte. -/
theorem incrementHalvesAndCommit : Obligations.IncrementHalvesAndCommit := by
  intro b d s
  have hmode : keepLow 2 d = d.extractLsb' 0 2 := BitVec.setWidth_eq_extractLsb' (by decide)
  rw [← setLane_low16, ← setLane_high16, ← hmode]
  exact ⟨s.accept_setPort _, s.accept_setPort _, s.accept_setPort _⟩

end Sys2Proof.Machine
end

section
/-! SUPPORT. The math unit, said once (43_math.md R290 to R332): the events that replace it, the computed results as
integers, the status byte, and the unit after any number of TICKs. -/

namespace Sys2Proof.Machine

/-! The events that replace the math unit -/

theorem State.accept_setMath (s : State) (u : MathUnit) :
    s.accept (s.chip.setMath u) = .next { s with chip.math := u, ret := none } := rfl

/-- What a write of MOPM1 makes of the math unit: the high multiplier byte, then the arming (R301). -/
def MathUnit.writeMopm1 (d : Byte) (m : MathUnit) : MathUnit :=
  armMul (mulLatency Config.params) { m with mopM := d ++ m.mopM.extractLsb' 0 8 }

/-- What a write of MOPD1 makes of the math unit: the high divisor byte, then the arming (R305). -/
def MathUnit.writeMopd1 (d : Byte) (m : MathUnit) : MathUnit :=
  armDiv (divLatency Config.params) { m with mopD := d ++ m.mopD.extractLsb' 0 8 }

theorem exec_wrMopm1 (b d : Byte) (s : State) :
    exec (.wrMopm1 b d) s = .next { s with chip.math := s.chip.math.writeMopm1 d, ret := none } := by
  rw [MathUnit.writeMopm1, ← setLane_high16]
  exact s.accept_setMath _

theorem exec_wrMopd1 (b d : Byte) (s : State) :
    exec (.wrMopd1 b d) s = .next { s with chip.math := s.chip.math.writeMopd1 d, ret := none } := by
  rw [MathUnit.writeMopd1, ← setLane_high16]
  exact s.accept_setMath _

/-! The product, the quotient and the remainder as integers (R322, R323) -/

/-- 32 bits hold every unsigned product. -/
theorem mulCompute_unsigned_toNat (a b : BitVec 16) : (mulCompute a b false).toNat = a.toNat * b.toNat := by
  have hlt : a.toNat * b.toNat < 2 ^ 16 * 2 ^ 16 := Nat.mul_lt_mul'' a.isLt b.isLt
  exact (BitVec.toNat_ofNat _ _).trans (Nat.mod_eq_of_lt hlt)

/-- 32 bits hold every signed product. -/
theorem mulCompute_signed_toInt (a b : BitVec 16) : (mulCompute a b true).toInt = a.toInt * b.toInt := by
  have hlo := BitVec.le_toInt_mul_toInt (x := a) (y := b)
  have hhi := BitVec.toInt_mul_toInt_le (x := a) (y := b)
  exact BitVec.toInt_ofInt_eq_self (by decide) (by omega) (by omega)

theorem divQuotient_by_zero (a : BitVec 16) (signed : Bool) :
    divQuotient a 0 signed = if signed = true then 0xFFFFFFFF else 0x0000FFFF := by
  cases signed <;> rfl

theorem divRemainder_by_zero (a : BitVec 16) (signed : Bool) : divRemainder a 0 signed = a := by
  cases signed <;> rfl

theorem divQuotient_unsigned_toNat (a : BitVec 16) {d : BitVec 16} (hd : d ≠ 0) :
    (divQuotient a d false).toNat = a.toNat / d.toNat := by
  have hd' : d.toNat ≠ 0 := BitVec.toNat_ne_iff_ne.2 hd
  have hle : a.toNat / d.toNat ≤ a.toNat := Nat.div_le_self ..
  have ha := a.isLt
  rw [divQuotient, if_neg Bool.false_ne_true, if_neg hd', BitVec.toNat_ofNat]
  exact Nat.mod_eq_of_lt (by omega)

theorem divRemainder_unsigned_toNat (a : BitVec 16) {d : BitVec 16} (hd : d ≠ 0) :
    (divRemainder a d false).toNat = a.toNat % d.toNat := by
  have hd' : d.toNat ≠ 0 := BitVec.toNat_ne_iff_ne.2 hd
  have hle : a.toNat % d.toNat ≤ a.toNat := Nat.mod_le ..
  have ha := a.isLt
  rw [divRemainder, if_neg Bool.false_ne_true, if_neg hd', BitVec.toNat_ofNat]
  exact Nat.mod_eq_of_lt (by omega)

/-- The quotient's register is wider than the dividend, so `-2^15` divided by `-1` does not overflow. -/
theorem divQuotient_signed_toInt (a : BitVec 16) {d : BitVec 16} (hd : d ≠ 0) :
    (divQuotient a d true).toInt = a.toInt.tdiv d.toInt := by
  have hd' : d.toInt ≠ 0 := BitVec.toInt_ne.2 hd
  have hle : (a.toInt.tdiv d.toInt).natAbs ≤ a.toInt.natAbs := Int.natAbs_tdiv_le_natAbs ..
  have hlo := a.le_toInt
  have hhi := a.toInt_lt
  rw [divQuotient, if_pos rfl, if_neg hd']
  exact BitVec.toInt_ofInt_eq_self (by decide) (by omega) (by omega)

/-- The signed remainder is the truncated one, which has 16 bits. -/
theorem divRemainder_signed_toInt (a : BitVec 16) {d : BitVec 16} (hd : d ≠ 0) :
    (divRemainder a d true).toInt = a.toInt.tmod d.toInt := by
  have hd' : d.toInt ≠ 0 := BitVec.toInt_ne.2 hd
  rw [divRemainder, if_pos rfl, if_neg hd', Int.mul_comm, ← Int.tmod_def, ← BitVec.toInt_srem, BitVec.ofInt_toInt]

/-! The status byte (R53, R320) -/

theorem mathBusy_iff (m : MathUnit) : mathBusy m = true ↔ m.mulWait ≠ 0 ∨ m.divWait ≠ 0 := by
  simp [mathBusy]

theorem mstatByte_eq (m : MathUnit) :
    mstatByte m = if m.mulWait ≠ 0 ∨ m.divWait ≠ 0 then 0x80 else 0x40 := by
  rw [mstatByte, if_congr (mathBusy_iff m).symm rfl rfl]
  cases mathBusy m <;> rfl

theorem exec_rdMstat (b : Byte) (s : State) :
    exec (.rdMstat b) s =
      .next { s with ret := some (if s.chip.math.mulWait ≠ 0 ∨ s.chip.math.divWait ≠ 0 then 0x80 else 0x40) } :=
  mstatByte_eq s.chip.math ▸ s.observe_eq _

theorem exec_rdMstat_busy (b : Byte) {s : State} (h : s.chip.math.mulWait ≠ 0 ∨ s.chip.math.divWait ≠ 0) :
    exec (.rdMstat b) s = .next { s with ret := some 0x80 } := by
  rw [exec_rdMstat, if_pos h]

/-! The math unit after n TICKs (R330 to R332, R411, R412) -/

theorem mulTimerStep_eq (m : MathUnit) :
    mulTimerStep m =
      { m with mulWait := m.mulWait - 1, mres := if m.mulWait = 1 then m.mulPend else m.mres } := by
  obtain ⟨_ | _ | _, _⟩ := m <;> simp [mulTimerStep, mulComplete]

theorem divTimerStep_eq (m : MathUnit) :
    divTimerStep m =
      { m with
        divWait := m.divWait - 1
        mres := if m.divWait = 1 then m.divPendQ else m.mres
        mrem := if m.divWait = 1 then m.divPendR else m.mrem } := by
  obtain ⟨_, _ | _ | _, _⟩ := m <;> simp [divTimerStep, divComplete]

/-- One TICK of the math unit: the divide's completion comes after the multiply's and so wins (R332). -/
theorem tickChip_math (hasRtc : Bool) (c : Chip) :
    (tickChip hasRtc c).math =
      { c.math with
        mulWait := c.math.mulWait - 1
        divWait := c.math.divWait - 1
        mres := if c.math.divWait = 1 then c.math.divPendQ
          else if c.math.mulWait = 1 then c.math.mulPend else c.math.mres
        mrem := if c.math.divWait = 1 then c.math.divPendR else c.math.mrem } := by
  rw [tickChip_eq, divTimerStep_eq, mulTimerStep_eq]

/-- A multiply in flight completes within `n` TICKs. -/
abbrev MathUnit.MulDone (m : MathUnit) (n : Nat) : Prop := 0 < m.mulWait ∧ m.mulWait ≤ n

/-- A divide in flight completes within `n` TICKs. -/
abbrev MathUnit.DivDone (m : MathUnit) (n : Nat) : Prop := 0 < m.divWait ∧ m.divWait ≤ n

/-- What `n` TICKs make of the math unit, in closed form: the later completion holds the latch, the divide's in a tie. -/
def MathUnit.afterTicks (m : MathUnit) (n : Nat) : MathUnit :=
  { m with
    mulWait := m.mulWait - n
    divWait := m.divWait - n
    mres := if m.DivDone n ∧ (m.MulDone n → m.mulWait ≤ m.divWait) then m.divPendQ
      else if m.MulDone n then m.mulPend else m.mres
    mrem := if m.DivDone n then m.divPendR else m.mrem }

theorem MathUnit.afterTicks_zero (m : MathUnit) : m.afterTicks 0 = m := by
  have hmul : ¬ m.MulDone 0 := by omega
  have hdiv : ¬ m.DivDone 0 := by omega
  simp [MathUnit.afterTicks, hmul, hdiv]

/-- The latch after one more TICK: what ends in it holds the latch. -/
theorem MathUnit.afterTicks_succ_mres (m : MathUnit) (n : Nat) :
    (m.afterTicks (n + 1)).mres =
      if m.divWait - n = 1 then m.divPendQ else if m.mulWait - n = 1 then m.mulPend else (m.afterTicks n).mres := by
  split
  next hdiv => exact if_pos (by omega)
  next hdiv =>
    split
    next hmul => exact (if_neg (by omega)).trans (if_pos (by omega))
    next hmul =>
      have hmulDone : m.MulDone (n + 1) ↔ m.MulDone n := by omega
      have hdivDone : m.DivDone (n + 1) ↔ m.DivDone n := by omega
      simp only [MathUnit.afterTicks, hmulDone, hdivDone]

theorem MathUnit.afterTicks_succ_mrem (m : MathUnit) (n : Nat) :
    (m.afterTicks (n + 1)).mrem = if m.divWait - n = 1 then m.divPendR else (m.afterTicks n).mrem := by
  split
  next hdiv => exact if_pos (by omega)
  next hdiv =>
    have hdivDone : m.DivDone (n + 1) ↔ m.DivDone n := by omega
    simp only [MathUnit.afterTicks, hdivDone]

theorem advance_math (hasRtc : Bool) (n : Nat) (c : Chip) :
    (advance hasRtc n c).math = c.math.afterTicks n := by
  induction n with
  | zero => exact c.math.afterTicks_zero.symm
  | succ n ih =>
    rw [advance_succ, tickChip_math, ih]
    simp only [MathUnit.afterTicks, MathUnit.mk.injEq, Nat.sub_sub, true_and, and_true]
    exact ⟨(c.math.afterTicks_succ_mres n).symm, (c.math.afterTicks_succ_mrem n).symm⟩

/-- The results of an arming write of the multiply, with no divide in flight, after `n` TICKs (R326). -/
theorem MathUnit.writeMopm1_afterTicks (d : Byte) {m : MathUnit} (hidle : m.divWait = 0) (n : Nat) :
    ((m.writeMopm1 d).afterTicks n).mrem = m.mrem ∧
    ((m.writeMopm1 d).afterTicks n).mres =
      if mulLatency Config.params ≤ n then mulCompute m.mopA (d ++ m.mopM.extractLsb' 0 8) m.msign else m.mres := by
  have hdiv : ¬ (m.writeMopm1 d).DivDone n := fun h => h.1.ne' hidle
  have hmul : (m.writeMopm1 d).MulDone n ↔ mulLatency Config.params ≤ n := and_iff_right (Nat.succ_pos _)
  exact ⟨if_neg hdiv, (if_neg fun h => hdiv h.1).trans (if_congr hmul rfl rfl)⟩

/-- The results of an arming write of the divide, with no multiply in flight, after `n` TICKs (R326). -/
theorem MathUnit.writeMopd1_afterTicks (d : Byte) {m : MathUnit} (hidle : m.mulWait = 0) (n : Nat) :
    ((m.writeMopd1 d).afterTicks n).mres =
      (if divLatency Config.params ≤ n then divQuotient m.mopA (d ++ m.mopD.extractLsb' 0 8) m.msign else m.mres) ∧
    ((m.writeMopd1 d).afterTicks n).mrem =
      if divLatency Config.params ≤ n then divRemainder m.mopA (d ++ m.mopD.extractLsb' 0 8) m.msign else m.mrem := by
  have hmul : ¬ (m.writeMopd1 d).MulDone n := fun h => h.1.ne' hidle
  have hdiv : (m.writeMopd1 d).DivDone n ↔ divLatency Config.params ≤ n := and_iff_right (Nat.succ_pos _)
  have hlast : (m.writeMopd1 d).MulDone n → (m.writeMopd1 d).mulWait ≤ (m.writeMopd1 d).divWait :=
    fun h => absurd h hmul
  exact ⟨if_congr ((and_iff_left hlast).trans hdiv) rfl (if_neg hmul), if_congr hdiv rfl rfl⟩

/-! Runs over queued TICKs (R149, R417) -/

/-- A run over `k` queued TICKs is `advance(k)`, and every TICK is an event with a number of its own. -/
theorem run_ticks {k : Nat} {m : Byte} {s : State} {rest : List Input}
    (hq : s.inbox = List.replicate k (.event (encode .tick) m) ++ rest) :
    ∃ t, Host.Core.run Sys2Proof.core k s = .next t ∧ t.inbox = rest ∧
      t.chip = advance Config.params.hasRtc k s.chip ∧ t.draw = s.draw + k := by
  have htick (n : Nat) (u : State) (x : Input) (tail : List Input)
      (hx : x ∈ List.replicate k (Input.event (encode .tick) m)) (huq : u.inbox = x :: tail)
      (hu : u.chip = advance Config.params.hasRtc n s.chip ∧ u.draw = s.draw + n) :
      ∃ v, step u = .next v ∧ v.inbox = tail ∧
        v.chip = advance Config.params.hasRtc (n + 1) s.chip ∧ v.draw = s.draw + (n + 1) := by
    obtain ⟨hchip, hdraw⟩ := hu
    rw [List.eq_of_mem_replicate hx] at huq
    rw [step_encode _ rfl huq, advance_succ, ← hchip, ← Nat.add_assoc, ← hdraw]
    exact ⟨_, rfl, rfl, rfl, rfl⟩
  have hrun := run_queue (R := fun n u => u.chip = advance Config.params.hasRtc n s.chip ∧ u.draw = s.draw + n)
    htick hq ⟨rfl, rfl⟩
  rwa [List.length_replicate] at hrun

/-- A run over one queued write that replaces the math unit, and then `k` TICKs. -/
theorem run_mathWrite_then_ticks {i : Instr} {f : MathUnit → MathUnit} {k : Nat} {m : Byte} {s : State}
    {rest : List Input} (hi : i.wellFormed = true)
    (hexec : ∀ u : State, exec i u = .next { u with chip.math := f u.chip.math, ret := none })
    (hq : s.inbox = .event (encode i) m :: (List.replicate k (.event (encode .tick) m) ++ rest)) :
    ∃ t, Host.Core.run Sys2Proof.core (k + 1) s = .next t ∧ t.inbox = rest ∧
      t.chip.math = (f s.chip.math).afterTicks k := by
  have hwrite := (step_encode i hi hq).trans (hexec _)
  obtain ⟨t, ht, htq, hchip, -⟩ := run_ticks (s := { s.takeEvent _ m with
    chip.math := f s.chip.math, ret := none }) rfl
  refine ⟨t, (run_succ _ _ _ hwrite).trans ht, htq, ?_⟩
  rw [hchip, advance_math]

end Sys2Proof.Machine
end

section
/-! The statements about the math unit, settled. -/

namespace Sys2Proof.Machine

/-- Settles O29: the product is exact in either mode, and the latency is never 0. -/
theorem multiplyArms : Obligations.MultiplyArms := by
  intro b d s
  refine ⟨_, _, exec_wrMopm1 b d s, rfl, fun hsign => ?_, fun hsign => ?_,
    exec_rdMstat_busy b (.inl (Nat.succ_ne_zero _))⟩
  · rw [hsign, mulCompute_unsigned_toNat]
  · rw [hsign, mulCompute_signed_toInt]

/-- Settles O30: the divisor is zero, or the results are exact in either mode; the latency is never 0. -/
theorem divideArms : Obligations.DivideArms := by
  intro b d s
  refine ⟨_, _, _, exec_wrMopd1 b d s, rfl, fun hzero => ?_, fun hd hsign => ?_, fun hd hsign => ?_,
    exec_rdMstat_busy b (.inr (Nat.succ_ne_zero _))⟩
  · rw [hzero]
    exact ⟨divRemainder_by_zero _ _, divQuotient_by_zero _ _⟩
  · rw [hsign]
    exact ⟨divQuotient_unsigned_toNat _ hd, divRemainder_unsigned_toNat _ hd⟩
  · rw [hsign]
    exact ⟨divQuotient_signed_toInt _ hd, divRemainder_signed_toInt _ hd⟩

/-- Settles O31: each clause is a branch of the closed form. -/
theorem mathUnitAfterTicks : Obligations.MathUnitAfterTicks := by
  intro hasRtc n c
  refine ⟨_, advance_math hasRtc n c, rfl, fun hdiv => if_pos hdiv, fun hdiv => if_neg hdiv, ?_, ?_, ?_⟩
  · intro hmul hdiv
    exact (if_neg fun h => hdiv h.1).trans (if_neg hmul)
  · intro hmul hlater
    exact (if_neg fun h => absurd (h.2 hmul) (Nat.not_le.2 (hlater h.1))).trans (if_pos hmul)
  · intro hdiv hlater
    exact if_pos ⟨hdiv, hlater⟩

/-- Settles O32: with the other timer idle, the end of the armed one is the only completion in the run. -/
theorem resultsVisibleExactlyAfterLatency : Obligations.ResultsVisibleExactlyAfterLatency := by
  intro s b d m k rest
  simp only [fields_eq_eventWord]
  constructor
  · intro hidle hq
    obtain ⟨t, ht, htq, hmath⟩ := run_mathWrite_then_ticks (i := .wrMopm1 b d) rfl (exec_wrMopm1 b d) hq
    exact ⟨t, ht, htq, hmath ▸ MathUnit.writeMopm1_afterTicks d hidle k⟩
  · intro hidle hq
    obtain ⟨t, ht, htq, hmath⟩ := run_mathWrite_then_ticks (i := .wrMopd1 b d) rfl (exec_wrMopd1 b d) hq
    exact ⟨t, ht, htq, hmath ▸ MathUnit.writeMopd1_afterTicks d hidle k⟩

/-- Settles O26: each of these reads observes a byte lane. -/
theorem mathOperandReads : Obligations.MathOperandReads :=
  fun _ s => ⟨s.observe_eq _, s.observe_eq _, s.observe_eq _, s.observe_eq _, s.observe_eq _, s.observe_eq _,
    s.observe_eq _, s.observe_eq _⟩

/-- Settles O27: six byte lanes, the sign mode at bit 0, and the busy and ready pair. -/
theorem mathResultReads : Obligations.MathResultReads := by
  intro b s
  have hsign : bitAt 0 s.chip.math.msign = if s.chip.math.msign = true then 0x01 else 0x00 := by
    cases s.chip.math.msign <;> rfl
  exact ⟨s.observe_eq _, s.observe_eq _, s.observe_eq _, s.observe_eq _, s.observe_eq _, s.observe_eq _,
    hsign ▸ s.observe_eq _, exec_rdMstat b s⟩

/-- Settles O28: each of these writes replaces one byte lane, MSIGN's the sign mode. -/
theorem mathOperandWrites : Obligations.MathOperandWrites := by
  intro b d s
  simp only [← setLane_low16, ← setLane_high16]
  exact ⟨s.accept_setMath _, s.accept_setMath _, s.accept_setMath _, s.accept_setMath _, s.accept_setMath _,
    s.accept_setMath _, s.accept_setMath _⟩

end Sys2Proof.Machine
end

section
/-! SUPPORT. The memory-mapping unit and the windows, said once (44_mmu_windows.md R340 to R352): the events, the byte
of a window read by the window of its address, and the SRAM after a window write. -/

namespace Sys2Proof.Machine

variable {P : Params} {draw : Nat} {mdr d : Byte} {c : Chip} {mmu : Mmu} {a : Addr24} {k : Fin 4} {o : Nat}

/-! The events of the unit and of the windows -/

theorem State.accept_setMmu (s : State) (u : Mmu) :
    s.accept (s.chip.setMmu u) = .next { s with chip.mmu := u, ret := none } := rfl

theorem State.accept_setRam (s : State) (m : Memory) :
    s.accept (s.chip.setRam m) = .next { s with chip.ram := m, ret := none } := rfl

theorem exec_winrd (a : Addr24) (s : State) :
    exec (.winrd a) s = .next { s with ret := some (windowByte Config.params s.draw s.mdr s.chip a) } :=
  s.observe_eq _

theorem exec_winwr (a : Addr24) (d : Byte) (s : State) :
    exec (.winwr a d) s = .next { s with chip.ram := windowStore Config.params s.chip a d, ret := none } :=
  s.accept_setRam _

/-! The fields of a mapping register -/

theorem keepLow_eq_slice {n : Nat} (h : n ≤ 8) (d : Byte) : keepLow n d = d.extractLsb' 0 n :=
  BitVec.setWidth_eq_extractLsb' h

/-- The flag at bit 7 does not meet the three bits of the field. -/
theorem bitAt_seven_or_asByte (b : Bool) (v : BitVec 3) :
    bitAt 7 b ||| asByte v = (BitVec.ofBool b ++ 0#4) ++ v := by
  revert b v
  decide

/-- The flag at bit 2 does not meet the two bits of the field. -/
theorem bitAt_two_or_asByte (b : Bool) (v : BitVec 2) :
    bitAt 2 b ||| asByte v = (0#5 ++ BitVec.ofBool b) ++ v := by
  revert b v
  decide

/-! The translations as numbers (R107, R108) -/

theorem bankedAddr_eq_ofNat (bank : BitVec 3) (a : Addr24) :
    bankedAddr bank a = BitVec.ofNat 24 (bank.toNat * 2 ^ 20 + a.toNat % 2 ^ 20) := by
  rw [← bankedAddr_toNat, BitVec.ofNat_toNat, BitVec.setWidth_eq]

theorem ramOffset_eq (P : Params) (a : Addr24) :
    ramOffset P a = mirror P ((a.toNat / 2 ^ 16 % 2 ^ 6) * 2 ^ 13 + a.toNat % 2 ^ 13) P.ramSize := by
  rw [ramOffset, toNat_slice, toNat_slice, Nat.pow_zero, Nat.div_one]

theorem ramCell_eq_some_iff :
    ramCell P mmu a = some o ↔
      inRamWindow a = true ∧ mmu.ramEn = true ∧ P.ramSize ≠ 0 ∧ o = ramOffset P a := by
  constructor
  · intro h
    obtain ⟨hwin, hen, hsize, ho, -⟩ := ramCell_eq_some h
    exact ⟨hwin, hen, hsize, ho⟩
  · rintro ⟨hwin, hen, hsize, rfl⟩
    exact if_pos ⟨hwin, hen, hsize⟩

theorem ramCell_outside (h : inRamWindow a = false) : ramCell P mmu a = none :=
  if_neg fun hc => Bool.false_ne_true (h.symm.trans hc.1)

theorem ramCell_disabled (h : ¬ (mmu.ramEn = true ∧ P.ramSize ≠ 0)) : ramCell P mmu a = none :=
  if_neg fun hc => h hc.2

/-! What a ROM window reads (R107) -/

/-- Window 0 has the fixed program ROM, if the cartridge has one. -/
theorem winRead_zero (P : Params) (draw : Nat) (mmu : Mmu) (a : Addr24) :
    winRead P draw mmu 0 a =
      if P.hasPromFixed = true then promRead P draw (offset20 a)
      else dromRead P draw mmu.msize (bankedAddr mmu.bank[0] a) := by
  simp [winRead]

/-- Window 1 has the fast path, if it is on. -/
theorem winRead_one (P : Params) (draw : Nat) (mmu : Mmu) (a : Addr24) :
    winRead P draw mmu 1 a =
      if mmu.mfast1 = true then promRead P draw (0x100000 + offset20 a)
      else dromRead P draw mmu.msize (bankedAddr mmu.bank[1] a) := by
  simp [winRead]

/-- Windows 2 and 3 have their bank and nothing else. -/
theorem winRead_banked (h0 : k ≠ 0) (h1 : k ≠ 1) :
    winRead P draw mmu k a = dromRead P draw mmu.msize (bankedAddr mmu.bank[k] a) := by
  rw [winRead, if_neg fun h => h0 h.1, if_neg fun h => h1 h.1]

/-! What a window read returns, and what a window write stores (R350 to R352) -/

theorem windowByte_of_window (h : windowOf a = some k) :
    windowByte P draw mdr c a = winRead P draw c.mmu k a := by
  simp only [windowByte, h]

theorem windowByte_of_cell (hw : windowOf a = none) (hc : ramCell P c.mmu a = some o) :
    windowByte P draw mdr c a = Memory.read P.ramInit c.ram o := by
  simp only [windowByte, hw, hc]

theorem windowByte_of_no_cell (hw : windowOf a = none) (hc : ramCell P c.mmu a = none) :
    windowByte P draw mdr c a = mdr := by
  simp only [windowByte, hw, hc]

/-- A RAM-window address reads its cell where the window is enabled and there is SRAM, and else `mdr`. -/
theorem windowByte_of_ramWindow (hw : windowOf a = none) (hr : inRamWindow a = true) :
    windowByte P draw mdr c a =
      if c.mmu.ramEn = true ∧ P.ramSize ≠ 0 then Memory.read P.ramInit c.ram (ramOffset P a) else mdr := by
  split_ifs with h
  · exact windowByte_of_cell hw (ramCell_eq_some_iff.2 ⟨hr, h.1, h.2, rfl⟩)
  · exact windowByte_of_no_cell hw (ramCell_disabled h)

theorem windowStore_of_cell (h : ramCell P c.mmu a = some o) :
    windowStore P c a d = Memory.write P.ramInit c.ram o d := by
  simp only [windowStore, h]

theorem windowStore_of_no_cell (h : ramCell P c.mmu a = none) : windowStore P c a d = c.ram := by
  simp only [windowStore, h]

end Sys2Proof.Machine
end

section
/-! The statements about the memory-mapping unit and the windows, settled. -/

namespace Sys2Proof.Machine

/-- Settles O37: a ROM window reads its fast path or its bank, a RAM-window address its cell, the rest `mdr`. -/
theorem windowReadBytes : Obligations.WindowReadBytes := by
  intro a s mmu off banked sram answers
  have answers_of {v : Byte} (h : windowByte Config.params s.draw s.mdr s.chip a = v) : answers v :=
    h ▸ exec_winrd a s
  have hbanked (bank : BitVec 3) : dromRead Config.params s.draw mmu.msize (bankedAddr bank a) = banked bank := by
    rw [bankedAddr_eq_ofNat]
  have hplain {k : Fin 4} (h0 : k ≠ 0) (h1 : k ≠ 1) (hw : windowOf a = some k) : answers (banked mmu.bank[k]) :=
    answers_of ((windowByte_of_window hw).trans ((winRead_banked h0 h1).trans (hbanked _)))
  have hsram : ramOffset Config.params a = sram := ramOffset_eq Config.params a
  refine ⟨fun hw => answers_of ?_, fun hw => answers_of ?_, hplain (by decide) (by decide),
    hplain (by decide) (by decide), fun hw hr => answers_of ?_, fun hw hr => answers_of ?_⟩
  · rw [windowByte_of_window hw, winRead_zero, hbanked, offset20]
  · rw [windowByte_of_window hw, winRead_one, hbanked, offset20]
  · rw [windowByte_of_ramWindow hw hr, hsram]
  · exact windowByte_of_no_cell hw (ramCell_outside hr)

/-- Settles O38: the store is one SRAM write at the cell of the address, or none. -/
theorem windowWriteStoresOneByte : Obligations.WindowWriteStoresOneByte := by
  refine ⟨exec_winwr, fun P c a d => ⟨fun o hcell => ?_, windowStore_of_no_cell, fun o => ?_⟩⟩
  · rw [windowStore_of_cell hcell]
    exact ⟨Memory.read_write_same o d, fun x hx => Memory.read_write_other c.ram d hx⟩
  · rw [← ramOffset_eq]
    exact ramCell_eq_some_iff

/-- Settles O34: each of these reads observes one field, or a flag above one. -/
theorem mmuRegisterReads : Obligations.MmuRegisterReads := by
  intro b s
  have hbank (v : BitVec 3) : asByte v = 0#5 ++ v := BitVec.setWidth_eq_append (by decide)
  rw [← bitAt_seven_or_asByte, ← hbank, ← hbank, ← hbank, ← bitAt_two_or_asByte]
  exact ⟨s.observe_eq _, s.observe_eq _, s.observe_eq _, s.observe_eq _, s.observe_eq _⟩

/-- Settles O35: each of these writes replaces the fields that its mask keeps. -/
theorem mmuRegisterWrites : Obligations.MmuRegisterWrites := by
  intro b d s
  rw [← keepLow_eq_slice (by decide) d, ← keepLow_eq_slice (by decide) d]
  exact ⟨s.accept_setMmu _, s.accept_setMmu _, s.accept_setMmu _, s.accept_setMmu _, s.accept_setMmu _⟩

end Sys2Proof.Machine
end

section
/-! SUPPORT. The real-time clock, said once (45_rtc.md R370 to R386): the sixteen nibble addresses, the command protocol
state by state, and what an event can do to the unit. -/

namespace Sys2Proof.Machine

variable {r u : Rtc} {n k v : Nibble} {i : Instr} {s t : State}

/-! The nibble addresses (R373, R374) -/

/-- A nibble address is a cell's, the lost-power flag's, or one of the two that hold nothing. -/
theorem nibble_address_cases (n : Nibble) : n.toNat < 13 ∨ n = 13 ∨ 13 < n.toNat := by
  rcases Nat.lt_trichotomy n.toNat 13 with h | h | h
  · exact .inl h
  · exact .inr (.inl (BitVec.eq_of_toNat_eq h))
  · exact .inr (.inr h)

theorem nibRead_lost (r : Rtc) : nibRead r 13 = 0#3 ++ BitVec.ofBool r.lost := by
  show (BitVec.ofBool r.lost).setWidth 4 = _
  exact BitVec.setWidth_eq_append (by decide)

theorem nibRead_none (r : Rtc) (h : 13 < n.toNat) : nibRead r n = 0 := by
  have hcell : ¬ n.toNat < 13 := by omega
  have hflag : n ≠ 13#4 := by rintro rfl; simp at h
  simp [nibRead, hcell, hflag]

theorem nibRead_nibWrite_cell (r : Rtc) (v : Nibble) (h : n.toNat < 13) : nibRead (nibWrite r n v) n = v := by
  rw [nibWrite_cell r n v h, nibRead_cell _ n h]
  exact Vector.getElem_set_self h

/-- The flag keeps bit 0 of the nibble. -/
theorem nibRead_nibWrite_lost (r : Rtc) (v : Nibble) : nibRead (nibWrite r 13 v) 13 = 0#3 ++ v.extractLsb' 0 1 := by
  have hbit : ∀ x : Nibble, BitVec.ofBool (x.getLsbD 0) = x.extractLsb' 0 1 := by decide
  rw [nibWrite_lost, nibRead_lost, ← hbit v]

/-- A write leaves every other address alone. -/
theorem nibRead_nibWrite_other (r : Rtc) (v : Nibble) (h : k ≠ n) : nibRead (nibWrite r n v) k = nibRead r k := by
  obtain hn | rfl | hn := nibble_address_cases n
  · rw [nibWrite_cell r n v hn]
    obtain hk | rfl | hk := nibble_address_cases k
    · rw [nibRead_cell _ k hk, nibRead_cell r k hk]
      exact Vector.getElem_set_ne hn hk fun heq => h (BitVec.eq_of_toNat_eq heq).symm
    · rfl
    · rw [nibRead_none _ hk, nibRead_none r hk]
  · rw [nibWrite_lost]
    obtain hk | rfl | hk := nibble_address_cases k
    · rw [nibRead_cell _ k hk, nibRead_cell r k hk]
    · exact absurd rfl h
    · rw [nibRead_none _ hk, nibRead_none r hk]
  · rw [nibWrite_none r n v hn]

theorem nibWrite_keeps_lost (r : Rtc) (v : Nibble) (h : n ≠ 13) : (nibWrite r n v).lost = r.lost := by
  obtain hn | rfl | hn := nibble_address_cases n
  · rw [nibWrite_cell r n v hn]
  · exact absurd rfl h
  · rw [nibWrite_none r n v hn]

theorem nibWrite_keeps_nib (r : Rtc) (v : Nibble) (h : 12 < n.toNat) : (nibWrite r n v).nib = r.nib := by
  obtain hn | rfl | hn := nibble_address_cases n
  · omega
  · rw [nibWrite_lost]
  · rw [nibWrite_none r n v hn]

@[simp] theorem nibWrite_en (r : Rtc) (n v : Nibble) : (nibWrite r n v).en = r.en := by
  obtain ⟨nib, lost, h⟩ := nibWrite_frame r n v
  rw [h]

@[simp] theorem nibWrite_state (r : Rtc) (n v : Nibble) : (nibWrite r n v).state = r.state := by
  obtain ⟨nib, lost, h⟩ := nibWrite_frame r n v
  rw [h]

/-- The cursor's advance is modulo 16 (R380, R382). -/
theorem ofNat_toNat_add_one (n : Nibble) : BitVec.ofNat 4 (n.toNat + 1) = n + 1 := by
  rw [BitVec.ofNat_add, BitVec.ofNat_toNat, BitVec.setWidth_eq]
  rfl

/-- Within the cells the advance does not wrap. -/
theorem toNat_add_one_of_cell (h : n.toNat < 13) : (n + 1).toNat = n.toNat + 1 := by
  bv_omega

/-! The command protocol, state by state (R376 to R380) -/

theorem protocolWrite_idle (v : Nibble) (h : r.state = .idle) :
    protocolWrite v r = { r with cmd := v, state := .cmdRcvd } := by
  simp only [protocolWrite, h]

theorem protocolWrite_cmdRcvd (v : Nibble) (h : r.state = .cmdRcvd) :
    protocolWrite v r = { r with cur := v, state := stateAfterAddress r.cmd } := by
  simp only [protocolWrite, h]

theorem protocolWrite_readMode (v : Nibble) (h : r.state = .readMode) : protocolWrite v r = r := by
  simp only [protocolWrite, h]

theorem protocolWrite_writeMode (v : Nibble) (h : r.state = .writeMode) :
    protocolWrite v r = { nibWrite r r.cur v with cur := r.cur + 1 } := by
  simp only [protocolWrite, h]

theorem writeRtcData_enabled (d : Byte) (h : r.en = true) : writeRtcData d r = protocolWrite (keepLow 4 d) r :=
  if_pos h

theorem writeRtcData_disabled (d : Byte) (h : r.en = false) : writeRtcData d r = r :=
  if_neg (Bool.not_eq_true _ ▸ h)

/-- The upper half of a written byte is discarded (R142). -/
theorem keepLow_zero_append (v : Nibble) : keepLow 4 (0#4 ++ v) = v := by
  revert v
  decide

/-- A command nibble and an address nibble, from Idle. -/
theorem writeRtcData_command_address (cmd addr : Nibble) (hen : r.en = true) (hidle : r.state = .idle) :
    writeRtcData (0#4 ++ addr) (writeRtcData (0#4 ++ cmd) r) =
      { r with cmd := cmd, cur := addr, state := stateAfterAddress cmd } := by
  calc writeRtcData (0#4 ++ addr) (writeRtcData (0#4 ++ cmd) r)
      = writeRtcData (0#4 ++ addr) { r with cmd := cmd, state := .cmdRcvd } := by
        rw [writeRtcData_enabled _ hen, keepLow_zero_append, protocolWrite_idle cmd hidle]
    _ = protocolWrite (keepLow 4 (0#4 ++ addr)) { r with cmd := cmd, state := .cmdRcvd } :=
        writeRtcData_enabled _ hen
    _ = { r with cmd := cmd, cur := addr, state := stateAfterAddress cmd } := by
        rw [keepLow_zero_append, protocolWrite_cmdRcvd addr rfl]

/-- A nibble in write mode. -/
theorem writeRtcData_nibble (v : Nibble) (hen : r.en = true) (hmode : r.state = .writeMode) :
    writeRtcData (0#4 ++ v) r = { nibWrite r r.cur v with cur := r.cur + 1 } := by
  rw [writeRtcData_enabled _ hen, keepLow_zero_append, protocolWrite_writeMode v hmode]

theorem writeRtcEn_enables {d : Byte} (h : d.getLsbD 0 = true) : writeRtcEn d r = { r with en := true } :=
  if_pos h

theorem writeRtcEn_disables {d : Byte} (h : d.getLsbD 0 = false) :
    writeRtcEn d r = { r with en := false, state := .idle } :=
  if_neg (Bool.not_eq_true _ ▸ h)

/-! The reads (R381 to R384) -/

theorem serves_iff (r : Rtc) : serves r = true ↔ r.en = true ∧ r.state = .readMode := by
  simp [serves]

theorem afterRtcDataRead_served (latency : Nat) (h : serves r = true) :
    afterRtcDataRead latency r = { r with cur := r.cur + 1, busy := true, waitT := latency } := if_pos h

theorem asByte_nibble (v : Nibble) : asByte v = 0#4 ++ v := BitVec.setWidth_eq_append (by decide)

theorem rtcDataByte_served (h : serves r = true) : rtcDataByte r = 0#4 ++ nibRead r r.cur :=
  (if_pos h).trans (asByte_nibble _)

theorem rtcDataByte_eq (r : Rtc) :
    rtcDataByte r = if r.en = true ∧ r.state = .readMode then 0#4 ++ nibRead r r.cur else 0 := by
  simp only [rtcDataByte, serves_iff, asByte_nibble]

theorem afterRtcDataRead_eq (latency : Nat) (r : Rtc) :
    afterRtcDataRead latency r = if r.en = true ∧ r.state = .readMode then
      { r with cur := r.cur + 1, busy := true, waitT := latency } else r := by
  simp only [afterRtcDataRead, serves_iff]

/-- The busy flag at bit 7 does not meet the five interrupt flags. -/
theorem rtcStatByte_eq (r : Rtc) : rtcStatByte r = (BitVec.ofBool r.busy ++ 0#2) ++ r.irq := by
  have disjoint : ∀ (b : Bool) (f : BitVec 5), bitAt 7 b ||| asByte f = (BitVec.ofBool b ++ 0#2) ++ f := by decide
  exact disjoint r.busy r.irq

theorem rtcStatusByte_eq (r : Rtc) :
    rtcStatusByte r = if r.en = true then (BitVec.ofBool r.busy ++ 0#2) ++ r.irq else 0 := by
  rw [rtcStatusByte, rtcStatByte_eq]

theorem bitAt_zero_eq (b : Bool) : bitAt 0 b = if b = true then 0x01 else 0x00 := by
  cases b <;> rfl

/-! The RTC that may be absent (R370) -/

theorem State.accept_setRtc (s : State) (u : Rtc) :
    s.accept (s.chip.setRtc u) = .next { s with chip.rtc := u, ret := none } := rfl

section
variable {c : Prop} [Decidable c] {x y : Byte} {f : Rtc → Rtc}

/-- A byte that is read only under a condition, of an RTC that may be absent. -/
theorem ifPresent_eq_ite (hasRtc : Bool) (hx : x = if c then y else 0) :
    ifPresent hasRtc x = if hasRtc = true ∧ c then y else 0 := by
  rw [ite_and, ← hx, ifPresent]

/-- An effect that happens only under a condition, on an RTC that may be absent. -/
theorem whenPresent_eq_ite (hasRtc : Bool) (hf : f r = if c then u else r) :
    whenPresent hasRtc f r = if hasRtc = true ∧ c then u else r := by
  rw [ite_and, ← hf, whenPresent]

/-- A read with an effect, served only under a condition: otherwise it returns 0x00 and changes nothing. -/
theorem State.deliver_ifPresent (s : State) (hasRtc : Bool) (hx : x = if c then y else 0)
    (hf : f s.chip.rtc = if c then u else s.chip.rtc) :
    s.deliver (ifPresent hasRtc x) (s.chip.setRtc (whenPresent hasRtc f s.chip.rtc)) =
      .next (if hasRtc = true ∧ c then { s with chip.rtc := u, ret := some y } else { s with ret := some 0x00 }) := by
  rw [ifPresent_eq_ite hasRtc hx, whenPresent_eq_ite hasRtc hf]
  by_cases h : hasRtc = true ∧ c
  · rw [if_pos h, if_pos h, if_pos h]; rfl
  · rw [if_neg h, if_neg h, if_neg h]; rfl

end

/-! The frames of the other operations -/

theorem afterRtcDataRead_frame (latency : Nat) (r : Rtc) :
    ∃ cur busy waitT, afterRtcDataRead latency r = { r with cur := cur, busy := busy, waitT := waitT } := by
  unfold afterRtcDataRead
  split <;> exact ⟨_, _, _, rfl⟩

theorem afterRtcStatRead_frame (r : Rtc) : ∃ irq, afterRtcStatRead r = { r with irq := irq } := by
  unfold afterRtcStatRead
  split <;> exact ⟨_, rfl⟩

theorem rtcWaitStep_frame (r : Rtc) : ∃ busy waitT, rtcWaitStep r = { r with busy := busy, waitT := waitT } := by
  unfold rtcWaitStep
  split <;> exact ⟨_, _, rfl⟩

theorem countCycle_frame (r : Rtc) : ∃ cnt sec irq, countCycle r = { r with cnt := cnt, sec := sec, irq := irq } := by
  unfold countCycle
  dsimp only
  split <;> exact ⟨_, _, _, rfl⟩

theorem whenPresent_cases (hasRtc : Bool) (f : Rtc → Rtc) (r : Rtc) :
    whenPresent hasRtc f r = r ∨ whenPresent hasRtc f r = f r := by
  cases hasRtc
  · exact .inl rfl
  · exact .inr rfl

/-- A TICK reaches neither the protocol nor the battery-backed cells (R413, R414). -/
theorem rtcTick_frame (hasRtc : Bool) (r : Rtc) :
    ∃ busy waitT cnt sec irq, rtcCounterStep hasRtc (rtcWaitStep r) =
      { r with busy := busy, waitT := waitT, cnt := cnt, sec := sec, irq := irq } := by
  obtain ⟨busy, waitT, hwait⟩ := rtcWaitStep_frame r
  rw [hwait, rtcCounterStep]
  obtain h | h := whenPresent_cases hasRtc countCycle { r with busy := busy, waitT := waitT }
  · exact ⟨busy, waitT, _, _, _, h⟩
  · obtain ⟨cnt, sec, irq, hcount⟩ := countCycle_frame { r with busy := busy, waitT := waitT }
    exact ⟨busy, waitT, cnt, sec, irq, h.trans hcount⟩

/-! What an event can do to the RTC -/

/-- What an event makes of the RTC `r`; an event of an absent RTC leaves it unchanged (R370). -/
inductive RtcEffect (r : Rtc) : Instr → Rtc → Prop
  | unchanged (i : Instr) : RtcEffect r i r
  | tick : RtcEffect r .tick (rtcCounterStep Config.params.hasRtc (rtcWaitStep r))
  | enable (b d : Byte) : RtcEffect r (.wrRtcen b d) (writeRtcEn d r)
  | dataWrite (b d : Byte) : RtcEffect r (.wrRtcdata b d) (writeRtcData d r)
  | dataRead (b : Byte) : RtcEffect r (.rdRtcdata b) (afterRtcDataRead (rtcLatency Config.params) r)
  | statusRead (b : Byte) : RtcEffect r (.rdRtcstat b) (afterRtcStatRead r)

/-- An operation of an RTC that may be absent. -/
theorem RtcEffect.whenPresent {f : Rtc → Rtc} (hasRtc : Bool) (h : RtcEffect r i (f r)) :
    RtcEffect r i (whenPresent hasRtc f r) := by
  cases hasRtc
  · exact .unchanged i
  · exact h

/-- The inversion of `exec`, as the RTC sees it. -/
theorem exec_rtcEffect (h : exec i s = .next t) : RtcEffect s.chip.rtc i t.chip.rtc := by
  cases i with
  | tick => cases h; exact .tick
  | wrRtcen b d => cases h; exact (RtcEffect.enable b d).whenPresent _
  | wrRtcdata b d => cases h; exact (RtcEffect.dataWrite b d).whenPresent _
  | rdRtcdata b => cases h; exact (RtcEffect.dataRead b).whenPresent _
  | rdRtcstat b => cases h; exact (RtcEffect.statusRead b).whenPresent _
  | _ => cases h; exact .unchanged _

/-- An event leaves the memory and the protocol's state, or it disables the RTC, or it is a step of the protocol. -/
theorem RtcEffect.protocol_cases (e : RtcEffect r i u) :
    (u.lost = r.lost ∧ u.nib = r.nib ∧ u.state = r.state) ∨
      (∃ b d : Byte, d.getLsbD 0 = false ∧ i = .wrRtcen b d ∧ u = { r with en := false, state := .idle }) ∨
      (∃ b d : Byte, i = .wrRtcdata b d ∧ r.en = true ∧ u = protocolWrite (keepLow 4 d) r) := by
  cases e with
  | unchanged => exact .inl ⟨rfl, rfl, rfl⟩
  | tick =>
    obtain ⟨busy, waitT, cnt, sec, irq, h⟩ := rtcTick_frame Config.params.hasRtc r
    rw [h]
    exact .inl ⟨rfl, rfl, rfl⟩
  | enable b d =>
    cases hd : d.getLsbD 0 with
    | false => exact .inr (.inl ⟨b, d, hd, rfl, writeRtcEn_disables hd⟩)
    | true =>
      rw [writeRtcEn_enables hd]
      exact .inl ⟨rfl, rfl, rfl⟩
  | dataWrite b d =>
    cases hen : r.en with
    | false =>
      rw [writeRtcData_disabled d hen]
      exact .inl ⟨rfl, rfl, rfl⟩
    | true => exact .inr (.inr ⟨b, d, rfl, rfl, writeRtcData_enabled d hen⟩)
  | dataRead =>
    obtain ⟨cur, busy, waitT, h⟩ := afterRtcDataRead_frame (rtcLatency Config.params) r
    rw [h]
    exact .inl ⟨rfl, rfl, rfl⟩
  | statusRead =>
    obtain ⟨irq, h⟩ := afterRtcStatRead_frame r
    rw [h]
    exact .inl ⟨rfl, rfl, rfl⟩

/-- The battery-backed memory is unchanged, or a data write in write mode stored a nibble (R374, R385). -/
theorem RtcEffect.memory_cases (e : RtcEffect r i u) :
    (u.lost = r.lost ∧ u.nib = r.nib) ∨
      ∃ b d, i = .wrRtcdata b d ∧ r.en = true ∧ r.state = .writeMode ∧
        u = { nibWrite r r.cur (keepLow 4 d) with cur := r.cur + 1 } := by
  obtain ⟨hlost, hnib, -⟩ | ⟨b, d, -, -, rfl⟩ | ⟨b, d, hi, hen, rfl⟩ := e.protocol_cases
  · exact .inl ⟨hlost, hnib⟩
  · exact .inl ⟨rfl, rfl⟩
  · cases hstate : r.state with
    | idle => rw [protocolWrite_idle _ hstate]; exact .inl ⟨rfl, rfl⟩
    | cmdRcvd => rw [protocolWrite_cmdRcvd _ hstate]; exact .inl ⟨rfl, rfl⟩
    | readMode => rw [protocolWrite_readMode _ hstate]; exact .inl ⟨rfl, rfl⟩
    | writeMode => exact .inr ⟨b, d, hi, hen, rfl, protocolWrite_writeMode _ hstate⟩

/-- The protocol's state is unchanged, or a data write took a command or an address, or the RTC was disabled (R386). -/
theorem RtcEffect.state_cases (e : RtcEffect r i u) :
    u.state = r.state ∨
      (∃ b d, i = .wrRtcdata b d ∧ (r.state = .idle ∧ u.state = .cmdRcvd ∨ r.state = .cmdRcvd)) ∨
      (∃ b d : Byte, d.getLsbD 0 = false ∧ i = .wrRtcen b d ∧ u.state = .idle) := by
  obtain ⟨-, -, hsame⟩ | ⟨b, d, hd, hi, rfl⟩ | ⟨b, d, hi, -, rfl⟩ := e.protocol_cases
  · exact .inl hsame
  · exact .inr (.inr ⟨b, d, hd, hi, rfl⟩)
  · cases hstate : r.state with
    | idle => exact .inr (.inl ⟨b, d, hi, .inl ⟨rfl, by rw [protocolWrite_idle _ hstate]⟩⟩)
    | cmdRcvd => exact .inr (.inl ⟨b, d, hi, .inr rfl⟩)
    | readMode => rw [protocolWrite_readMode _ hstate]; exact .inl hstate
    | writeMode => rw [protocolWrite_writeMode _ hstate]; exact .inl ((nibWrite_state _ _ _).trans hstate)

/-! A session (R378 to R382) -/

/-- `u` is `r` once `vs` was stored from the cursor on: the nibbles read back, and the addresses below are as before. -/
structure StoredFromCursor (r : Rtc) (vs : List Nibble) (u : Rtc) : Prop where
  stored : ∀ (j : Nat) (h : j < vs.length), nibRead u (r.cur + BitVec.ofNat 4 j) = vs[j]
  below : ∀ k : Nibble, k.toNat < r.cur.toNat → nibRead u k = nibRead r k

/-- A first nibble stored below the rest stays. -/
theorem StoredFromCursor.cons {vs : List Nibble} (hcur : r.cur.toNat < 13)
    (h : StoredFromCursor { nibWrite r r.cur v with cur := r.cur + 1 } vs u) : StoredFromCursor r (v :: vs) u := by
  have hbelow (k : Nibble) (hk : k.toNat < r.cur.toNat + 1) : nibRead u k = nibRead (nibWrite r r.cur v) k :=
    h.below k (hk.trans_eq (toNat_add_one_of_cell hcur).symm)
  constructor
  · intro j hj
    cases j with
    | zero => rw [BitVec.add_zero, hbelow r.cur (Nat.lt_succ_self _)]; exact nibRead_nibWrite_cell r v hcur
    | succ j =>
      have haddr : r.cur + BitVec.ofNat 4 (j + 1) = r.cur + 1 + BitVec.ofNat 4 j := by
        rw [Nat.add_comm j 1, BitVec.ofNat_add, ← BitVec.add_assoc]
        rfl
      rw [haddr]
      exact h.stored j (Nat.lt_of_succ_lt_succ hj)
  · intro k hk
    rw [hbelow k (Nat.lt_succ_of_lt hk)]
    exact nibRead_nibWrite_other r v fun heq => absurd hk (heq ▸ Nat.lt_irrefl _)

/-- Nibbles written in write mode, within the cells. -/
theorem foldl_writeRtcData_stored (vs : List Nibble) {r : Rtc} (hen : r.en = true) (hmode : r.state = .writeMode)
    (hfit : r.cur.toNat + vs.length ≤ 13) :
    StoredFromCursor r vs (vs.foldl (fun u v => writeRtcData (0#4 ++ v) u) r) := by
  induction vs generalizing r with
  | nil => exact ⟨nofun, fun _ _ => rfl⟩
  | cons v vs ih =>
    rw [List.length_cons] at hfit
    have hcur : r.cur.toNat < 13 := by omega
    rw [List.foldl_cons, writeRtcData_nibble v hen hmode]
    refine .cons hcur (ih ((nibWrite_en _ _ _).trans hen) ((nibWrite_state _ _ _).trans hmode) ?_)
    show (r.cur + 1).toNat + vs.length ≤ 13
    rw [toNat_add_one_of_cell hcur]
    omega

/-- Served data reads move the cursor and keep the RTC otherwise, the busy flag and its timer aside. -/
theorem iterate_afterRtcDataRead (latency j : Nat) (h : serves r = true) :
    ∃ busy waitT, (afterRtcDataRead latency)^[j] r =
      { r with cur := r.cur + BitVec.ofNat 4 j, busy := busy, waitT := waitT } := by
  induction j with
  | zero => exact ⟨r.busy, r.waitT, by simp⟩
  | succ j ih =>
    obtain ⟨busy, waitT, hj⟩ := ih
    refine ⟨true, latency, ?_⟩
    rw [Function.iterate_succ_apply', hj, BitVec.ofNat_add, ← BitVec.add_assoc]
    exact afterRtcDataRead_served latency h

end Sys2Proof.Machine
end

section
/-! The statements about the real-time clock, settled. -/

namespace Sys2Proof.Machine

/-- Settles O45, by the three kinds of nibble addresses. -/
theorem nibbleWriteThenRead : Obligations.NibbleWriteThenRead := by
  intro r n k v
  refine ⟨nibRead_cell r n, nibRead_lost r, fun hn => nibRead_nibWrite_cell r v (Nat.lt_succ_of_le hn), ?_,
    fun hn => ⟨nibRead_none r hn, nibWrite_none r n v hn⟩, nibRead_nibWrite_other r v, ?_⟩
  · rintro rfl
    exact nibRead_nibWrite_lost r v
  · obtain ⟨nib, lost, h⟩ := nibWrite_frame r n v
    rw [h]

/-- Settles O46: the stores by induction over the nibbles, the reads by induction over their number. -/
theorem storedNibblesReadBack : Obligations.StoredNibblesReadBack := by
  intro r start vs latency hen hidle hfit writing written reenabled reading j hj
  have hwriting : writing = { r with cmd := writePrep, cur := start, state := .writeMode } :=
    writeRtcData_command_address writePrep start hen hidle
  have hstored : StoredFromCursor writing vs written := by
    apply foldl_writeRtcData_stored <;> rw [hwriting]
    · exact hen
    · exact hfit
  have hreading : reading = { written with en := true, cmd := readPrep, cur := start, state := .readMode } :=
    writeRtcData_command_address (r := reenabled) readPrep start rfl rfl
  have hserves : serves reading = true := by rw [hreading]; rfl
  obtain ⟨busy, waitT, hread⟩ := iterate_afterRtcDataRead latency j hserves
  have hcell : nibRead written (start + BitVec.ofNat 4 j) = vs[j] := by
    simpa only [hwriting] using hstored.stored j hj
  rw [hread, hreading, ← hcell]
  exact rtcDataByte_served rfl

/-- Settles O47: only a data write in write mode stores a nibble, and it stores it at the cursor's address. -/
theorem clockMemoryChangesOnlyInWriteMode : Obligations.ClockMemoryChangesOnlyInWriteMode := by
  intro i s t h
  obtain ⟨hlost, hnib⟩ | ⟨b, d, hi, hen, hmode, hu⟩ := (exec_rtcEffect h).memory_cases
  · exact ⟨fun _ => ⟨hlost, hnib⟩, fun _ => hlost, fun _ => hnib⟩
  · rw [hu]
    refine ⟨?_, fun hcur => nibWrite_keeps_lost _ _ hcur, fun hcur => nibWrite_keeps_nib _ _ hcur⟩
    rintro (hother | hdis | hstate)
    · exact absurd hi (hother b d)
    · exact absurd (hen.symm.trans hdis) (by decide)
    · exact absurd hmode hstate

/-- Settles O48: a data write leaves only Idle and the state after a command. -/
theorem dataModesAreLeftOnlyByDisabling : Obligations.DataModesAreLeftOnlyByDisabling := by
  intro i s t h
  obtain hsame | ⟨b, d, hi, ⟨hfrom, hto⟩ | hfrom⟩ | ⟨b, d, hd, hi, hto⟩ := (exec_rtcEffect h).state_cases
  · exact ⟨fun _ _ => hsame, fun _ => .inl hsame, fun hs => .inl (hsame.trans hs)⟩
  · exact ⟨fun hno _ => absurd hi (hno b d), fun hs => absurd hs (by rw [hfrom]; decide), fun _ => .inr hto⟩
  · exact ⟨fun hno _ => absurd hi (hno b d), fun hs => absurd hs (by rw [hfrom]; decide),
      fun hs => absurd hs (by rw [hfrom]; decide)⟩
  · exact ⟨fun _ hno => absurd hi (hno b d hd), fun _ => .inr ⟨hto, b, d, hd, hi⟩, fun _ => .inl hto⟩

/-- Settles O41: the enable bit is at bit 0, and the write changes an RTC that is present. -/
theorem rtcEnableRegister : Obligations.RtcEnableRegister := by
  intro b d s r
  rw [← ifPresent_eq_ite _ (bitAt_zero_eq r.en)]
  exact ⟨s.observe_eq _, s.accept_setRtc _⟩

/-- Settles O42, by the state of the protocol. -/
theorem rtcProtocolWrites : Obligations.RtcProtocolWrites := by
  intro b d s r v
  have hrtc := whenPresent_eq_ite (f := writeRtcData d) (r := r) Config.params.hasRtc rfl
  refine (s.accept_setRtc _).trans ?_
  rw [hrtc, keepLow_eq_slice (by decide), ofNat_toNat_add_one]
  cases hstate : r.state with
  | idle => rw [protocolWrite_idle _ hstate]
  | cmdRcvd => rw [protocolWrite_cmdRcvd _ hstate]; rfl
  | readMode => rw [protocolWrite_readMode _ hstate]
  | writeMode => rw [protocolWrite_writeMode _ hstate]

/-- Settles O43: the read is served by an RTC that is present, enabled and in read mode. -/
theorem rtcDataReads : Obligations.RtcDataReads := by
  intro b s r
  rw [ofNat_toNat_add_one]
  exact s.deliver_ifPresent _ (rtcDataByte_eq r) (afterRtcDataRead_eq _ r)

/-- Settles O44: the flags are read and cleared on an RTC that is present and enabled. -/
theorem rtcStatusReads : Obligations.RtcStatusReads :=
  fun _ s => s.deliver_ifPresent _ (rtcStatusByte_eq s.chip.rtc) rfl

end Sys2Proof.Machine
end

section
/-! SUPPORT. The clock loop, said once (46_clock_loop.md R410 to R417): the TICK's two steps of the real-time clock as
equations, when an interrupt source fires, and the core after any number of TICKs. -/

namespace Sys2Proof.Machine

variable {r u : Rtc} {i : Instr}

/-! The two steps of the real-time clock in a TICK (R413, R414) -/

theorem rtcWaitStep_eq (r : Rtc) :
    rtcWaitStep r = { r with waitT := r.waitT - 1, busy := if r.waitT = 1 then false else r.busy } := by
  match h : r.waitT with
  | 0 => rw [rtcWaitStep_idle r h, if_neg Nat.zero_ne_one, Nat.zero_sub, ← h]
  | 1 => exact rtcWaitStep_clears r h
  | n + 2 => rw [rtcWaitStep_counts r n h, if_neg (by omega)]; rfl

/-- The source fires in a TICK that brings the counter to `cnt`; `sec` is the second that ends if the counter rolls over
(R414). -/
def IrqSource.due (cnt sec : Nat) : IrqSource → Bool
  | .duty => cnt % 0x8000 == 0
  | .sixtyFourth => cnt == 0
  | .second => cnt == 0
  | .minute => cnt == 0 && sec % 60 == 0
  | .hour => cnt == 0 && sec == 1440

/-- The flags after a TICK that brings the counter to `cnt`, raised in the order of R414. -/
def raiseDue (cnt sec : Nat) (irq : BitVec 5) : BitVec 5 :=
  [IrqSource.duty, .sixtyFourth, .second, .minute, .hour].foldl (fun f src => raiseWhen (src.due cnt sec) src f) irq

theorem getLsbD_raiseDue (cnt sec : Nat) (irq : BitVec 5) (src : IrqSource) :
    (raiseDue cnt sec irq).getLsbD src.bit = (irq.getLsbD src.bit || src.due cnt sec) := by
  simp only [raiseDue, List.foldl, getLsbD_raiseWhen]
  cases src <;> simp [IrqSource.bit]

/-- A flag already set stays set (R414). -/
theorem raiseDue_keeps (cnt sec : Nat) {irq : BitVec 5} {k : Nat} (h : irq.getLsbD k = true) :
    (raiseDue cnt sec irq).getLsbD k = true := by
  simp [raiseDue, getLsbD_raiseWhen, h]

/-- Only at a rollover of the counter can a source other than the duty generator fire. -/
theorem raiseDue_of_ne_zero {cnt : Nat} (h : cnt ≠ 0) (sec : Nat) (irq : BitVec 5) :
    raiseDue cnt sec irq = raiseWhen (cnt % 0x8000 == 0) .duty irq := by
  simp [raiseDue, IrqSource.due, raiseWhen, h]

/-- The counter's step by its fields: the counter wraps, the accumulator counts the rollovers modulo 1440 (R414). -/
theorem countCycle_eq (r : Rtc) :
    countCycle r = { r with
      cnt := r.cnt + 1
      sec := if (r.cnt + 1).toNat = 0 then (if r.sec + 1 = 1440 then 0 else r.sec + 1) else r.sec
      irq := raiseDue (r.cnt + 1).toNat (r.sec + 1) r.irq } := by
  by_cases h : r.cnt + 1 = 0
  · rw [countCycle, if_pos h, h]
    simp [countSecond, raiseDue, IrqSource.due]
  · have hne : (r.cnt + 1).toNat ≠ 0 := BitVec.toNat_ne_iff_ne.2 h
    rw [raiseDue_of_ne_zero hne, if_neg hne]
    exact if_neg h

/-- The flag of a source is set after a step if it was before, or if the source fires. -/
theorem countCycle_flag (r : Rtc) (src : IrqSource) :
    (countCycle r).irq.getLsbD src.bit = true ↔
      r.irq.getLsbD src.bit = true ∨ src.due ((r.cnt.toNat + 1) % 2 ^ 16) (r.sec + 1) = true := by
  rw [countCycle_eq, getLsbD_raiseDue, Bool.or_eq_true, BitVec.toNat_add]
  rfl

theorem rtcCounterStep_true (r : Rtc) : rtcCounterStep true r = countCycle r := rfl

/-- The counter's step neither reads nor changes the busy flag and its timer. -/
theorem rtcCounterStep_busy_wait (hasRtc : Bool) (r : Rtc) (busy : Bool) (waitT : Nat) :
    rtcCounterStep hasRtc { r with busy := busy, waitT := waitT } =
      { rtcCounterStep hasRtc r with busy := busy, waitT := waitT } := by
  cases hasRtc with
  | false => rfl
  | true =>
    simp only [rtcCounterStep_true, countCycle_eq]

theorem rtcCounterStep_frame (hasRtc : Bool) (r : Rtc) :
    rtcCounterStep hasRtc r = { r with
      cnt := if hasRtc = true then r.cnt + 1 else r.cnt
      sec := (rtcCounterStep hasRtc r).sec
      irq := (rtcCounterStep hasRtc r).irq } := by
  cases hasRtc with
  | false => rfl
  | true =>
    rw [rtcCounterStep_true, countCycle_eq]
    rfl

theorem rtcCounterStep_keeps_flag (hasRtc : Bool) {k : Nat} (h : r.irq.getLsbD k = true) :
    (rtcCounterStep hasRtc r).irq.getLsbD k = true := by
  obtain hsame | hcount := whenPresent_cases hasRtc countCycle r
  · rw [rtcCounterStep, hsame]; exact h
  · rw [rtcCounterStep, hcount, countCycle_eq]; exact raiseDue_keeps _ _ h

/-- One TICK of the real-time clock. -/
theorem tickChip_rtc (hasRtc : Bool) (c : Chip) :
    (tickChip hasRtc c).rtc = { rtcCounterStep hasRtc c.rtc with
      busy := if c.rtc.waitT = 1 then false else c.rtc.busy
      waitT := c.rtc.waitT - 1 } := by
  rw [tickChip_eq, rtcWaitStep_eq]
  exact rtcCounterStep_busy_wait ..

/-! What an event can do to the interrupt flags (R384, R414, R433) -/

/-- The flags are unchanged, or a TICK keeps those that are set, or a status read clears them all. -/
theorem RtcEffect.irq_cases (e : RtcEffect r i u) :
    u.irq = r.irq ∨ (i = .tick ∧ ∀ k, r.irq.getLsbD k = true → u.irq.getLsbD k = true) ∨
      ((∃ b, i = .rdRtcstat b) ∧ u.irq = 0) := by
  cases e with
  | unchanged => exact .inl rfl
  | tick =>
    rw [rtcWaitStep_eq]
    exact .inr (.inl ⟨rfl, fun _ h => rtcCounterStep_keeps_flag _ h⟩)
  | enable b d =>
    cases hd : d.getLsbD 0 with
    | false => rw [writeRtcEn_disables hd]; exact .inl rfl
    | true => rw [writeRtcEn_enables hd]; exact .inl rfl
  | dataWrite b d =>
    cases hen : r.en with
    | false => rw [writeRtcData_disabled d hen]; exact .inl rfl
    | true =>
      obtain ⟨nib, lost, state, cmd, cur, h⟩ := protocolWrite_frame (keepLow 4 d) r
      rw [writeRtcData_enabled d hen, h]
      exact .inl rfl
  | dataRead =>
    obtain ⟨cur, busy, waitT, h⟩ := afterRtcDataRead_frame (rtcLatency Config.params) r
    rw [h]
    exact .inl rfl
  | statusRead b =>
    cases hen : r.en with
    | false => exact .inl (by simp [afterRtcStatRead, hen])
    | true => exact .inr (.inr ⟨⟨b, rfl⟩, by simp [afterRtcStatRead, hen]⟩)

/-! The core after n TICKs (R417) -/

theorem advance_cycles (hasRtc : Bool) (n : Nat) (c : Chip) : (advance hasRtc n c).cycles = c.cycles + n := by
  induction n with
  | zero => rfl
  | succ n ih => rw [advance_succ, tickChip_eq, ih, Nat.add_assoc]

/-- The busy flag clears in the TICK that ends its timer, and the counter's own fields aside nothing else changes. -/
theorem advance_rtc_busy (hasRtc : Bool) (n : Nat) (c : Chip) :
    ∃ cnt sec irq, (advance hasRtc n c).rtc = { c.rtc with
      waitT := c.rtc.waitT - n
      busy := if 0 < c.rtc.waitT ∧ c.rtc.waitT ≤ n then false else c.rtc.busy
      cnt := cnt, sec := sec, irq := irq } := by
  induction n with
  | zero =>
    have hrunning : ¬ (0 < c.rtc.waitT ∧ c.rtc.waitT ≤ 0) := by omega
    exact ⟨_, _, _, by rw [if_neg hrunning]; rfl⟩
  | succ n ih =>
    obtain ⟨cnt, sec, irq, h⟩ := ih
    have hended : 0 < c.rtc.waitT ∧ c.rtc.waitT ≤ n + 1 ↔
        c.rtc.waitT - n = 1 ∨ 0 < c.rtc.waitT ∧ c.rtc.waitT ≤ n := by omega
    rw [advance_succ, tickChip_rtc, rtcCounterStep_frame, h, if_congr hended rfl rfl, ite_or]
    exact ⟨_, _, _, rfl⟩

/-- From 0, the counter and the accumulator are the remainders of the TICKs and of the seconds. -/
theorem advance_rtc_counts (n : Nat) {c : Chip} (hcnt : c.rtc.cnt = 0) (hsec : c.rtc.sec = 0) :
    (advance true n c).rtc.cnt.toNat = n % 2 ^ 16 ∧ (advance true n c).rtc.sec = n / 2 ^ 16 % 1440 := by
  induction n with
  | zero => exact ⟨congrArg BitVec.toNat hcnt, hsec⟩
  | succ n ih =>
    obtain ⟨ihcnt, ihsec⟩ := ih
    rw [advance_succ, tickChip_rtc, rtcCounterStep_true, countCycle_eq]
    simp only [BitVec.toNat_add, ihcnt, ihsec]
    refine ⟨Nat.mod_add_mod .., ?_⟩
    show (if (n % 2 ^ 16 + 1) % 2 ^ 16 = 0 then _ else _) = _
    split_ifs <;> omega

/-- The TICKs from one firing of a source to the next (R414). -/
def IrqSource.period : IrqSource → Nat
  | .duty => 2 ^ 15
  | .sixtyFourth => 2 ^ 16
  | .second => 2 ^ 16
  | .minute => 60 * 2 ^ 16
  | .hour => 1440 * 2 ^ 16

/-- With the counter and the accumulator at the remainders, a source fires in the multiples of its period: 60 divides
1440, so the accumulator's reset does not disturb the minutes. -/
theorem IrqSource.due_iff_period_dvd (src : IrqSource) (n : Nat) :
    src.due ((n % 2 ^ 16 + 1) % 2 ^ 16) (n / 2 ^ 16 % 1440 + 1) = true ↔ src.period ∣ n + 1 := by
  cases src <;> simp only [IrqSource.due, IrqSource.period, Bool.and_eq_true, beq_iff_eq] <;> omega

/-- From counts and flags of 0, a flag is set from the first period of its source on. -/
theorem advance_rtc_flag (n : Nat) {c : Chip} (hcnt : c.rtc.cnt = 0) (hsec : c.rtc.sec = 0) (hirq : c.rtc.irq = 0)
    (src : IrqSource) : (advance true n c).rtc.irq.getLsbD src.bit = true ↔ src.period ≤ n := by
  induction n with
  | zero =>
    rw [advance, hirq]
    cases src <;> decide
  | succ n ih =>
    obtain ⟨hcntn, hsecn⟩ := advance_rtc_counts n hcnt hsec
    rw [advance_succ, tickChip_rtc, rtcCounterStep_true, countCycle_flag, ih, hcntn, hsecn, src.due_iff_period_dvd]
    constructor
    · rintro (hbefore | hfires)
      · exact Nat.le_succ_of_le hbefore
      · exact Nat.le_of_dvd n.succ_pos hfires
    · intro hle
      exact (Nat.le_succ_iff.1 hle).imp_right Eq.dvd

end Sys2Proof.Machine
end

section
/-! The statements about the clock loop, settled. -/

namespace Sys2Proof.Machine

/-- Settles O50: each flag is the flag of a source. -/
theorem rtcCounterStepEvents : Obligations.RtcCounterStepEvents := by
  intro r cnt u
  have hcnt : (r.cnt + 1).toNat = cnt := BitVec.toNat_add ..
  have hu : u = countCycle r := rfl
  have hflag (src : IrqSource) : u.irq.getLsbD src.bit = true ↔
      r.irq.getLsbD src.bit = true ∨ src.due cnt (r.sec + 1) = true := countCycle_flag r src
  have hall : u = { r with cnt := u.cnt, sec := u.sec, irq := u.irq } := by rw [hu, countCycle_eq]
  refine ⟨rfl, hall, ?_, ?_, ?_, ?_, ?_, ?_, ?_⟩
  · rw [hu, countCycle_eq, ← hcnt]
  · rw [hu, countCycle_eq, ← hcnt]
  · simpa only [IrqSource.bit, IrqSource.due, Bool.and_eq_true, beq_iff_eq] using hflag .duty
  · simpa only [IrqSource.bit, IrqSource.due, Bool.and_eq_true, beq_iff_eq] using hflag .sixtyFourth
  · simpa only [IrqSource.bit, IrqSource.due, Bool.and_eq_true, beq_iff_eq] using hflag .second
  · simpa only [IrqSource.bit, IrqSource.due, Bool.and_eq_true, beq_iff_eq] using hflag .minute
  · simpa only [IrqSource.bit, IrqSource.due, Bool.and_eq_true, beq_iff_eq] using hflag .hour

/-- Settles O51: an event leaves the flags, or is a TICK, which keeps those set, or a status read. -/
theorem interruptFlagsStaySetUntilRead : Obligations.InterruptFlagsStaySetUntilRead := by
  intro i s t h
  obtain hsame | ⟨htick, hkeeps⟩ | ⟨⟨b, hread⟩, hclear⟩ := (exec_rtcEffect h).irq_cases
  · rw [hsame]
    exact ⟨fun _ _ => id, fun _ _ => id⟩
  · exact ⟨fun _ => hkeeps, fun hno => absurd htick hno⟩
  · refine ⟨fun hno => absurd hread (hno b), fun _ k hk => ?_⟩
    simp [hclear] at hk

/-- Settles O52: the counts and the flags, each by induction over the TICKs. -/
theorem rtcEventsAfterTicks : Obligations.RtcEventsAfterTicks := by
  intro n c hcnt hsec hirq
  obtain ⟨hcntn, hsecn⟩ := advance_rtc_counts n hcnt hsec
  have hflag := advance_rtc_flag n hcnt hsec hirq
  exact ⟨hcntn, hsecn, hflag .duty, hflag .sixtyFourth, hflag .second, hflag .minute, hflag .hour⟩

/-- Settles O53: the run over queued TICKs, with the cycle counter of `advance`. -/
theorem runOfTicksIsAdvance : Obligations.RunOfTicksIsAdvance := by
  intro n m s rest hq
  obtain ⟨t, hrun, hrest, hchip, hdraw⟩ := run_ticks hq
  exact ⟨rfl, t, hrun, hchip, hchip ▸ advance_cycles .., hrest, hdraw⟩

/-- Settles O54: the closed form of the busy flag and its timer. -/
theorem rtcBusyAfterTicks : Obligations.RtcBusyAfterTicks := by
  intro hasRtc n c
  obtain ⟨cnt, sec, irq, h⟩ := advance_rtc_busy hasRtc n c
  simp only [h, true_and, and_true]
  split
  next hended => exact ⟨nofun, fun hbusy => absurd hended hbusy.2⟩
  next hrunning => exact (and_iff_left hrunning).symm

/-- Settles O6: a step with an empty queue is a pause. -/
theorem stepPausesWithNothingQueued : Obligations.StepPausesWithNothingQueued := step_pause

/-- Settles O49: the TICK of each unit, and the counter of 16 bits. -/
theorem tickEffects : Obligations.TickEffects := by
  intro s m r
  have hcnt : BitVec.ofNat 16 (r.cnt.toNat + 1) = r.cnt + 1 := by simp [BitVec.ofNat_add]
  have hrtc := tickChip_rtc Config.params.hasRtc s.chip
  refine ⟨_, rfl, ?_, (congrArg Rtc.sec hrtc :), (congrArg Rtc.irq hrtc :)⟩
  rw [hcnt, tickChip_eq, divTimerStep_eq, mulTimerStep_eq, rtcWaitStep_eq, rtcCounterStep_busy_wait,
    rtcCounterStep_frame]

end Sys2Proof.Machine
end

section
/-! SUPPORT. The persisted image, said once (70_reset_and_hazards.md R471, R473): the validity of an image byte by byte,
what a power-on loads from a valid image and from any other, and the bytes of the image the host takes. -/

namespace Sys2Proof.Machine

/-! The valid images (R473) -/

/-- A test of the first bytes of a list, by index. -/
theorem all_take_iff {α : Type} {l : List α} {k : Nat} (hk : k ≤ l.length) (p : α → Bool) (d : α) :
    (l.take k).all p = true ↔ ∀ n < k, p (l.getD n d) = true := by
  have hlen : (l.take k).length = k := List.length_take_of_le hk
  have hget (n : Nat) (hn : n < k) : (l.take k)[n]'(hlen.symm ▸ hn) = l.getD n d := by
    rw [List.getElem_take, List.getD_eq_getElem]
  rw [List.all_eq_true, List.forall_mem_iff_forall_getElem]
  constructor
  · intro h n hn
    exact hget n hn ▸ h n (hlen.symm ▸ hn)
  · intro h n hn
    have hlt : n < k := hlen ▸ hn
    exact hget n hlt ▸ h n hlt

theorem highNibble_eq_zero_iff (b : Byte) : b.extractLsb' 4 4 = 0 ↔ b.toNat < 16 := by
  rw [← BitVec.toNat_inj, toNat_slice]
  have hb := b.isLt
  change b.toNat / 2 ^ 4 % 2 ^ 4 = 0 ↔ _
  omega

theorem byte_toNat_le_one_iff (b : Byte) : b.toNat ≤ 1 ↔ b = 0 ∨ b = 1 := by
  simp only [← BitVec.toNat_inj]
  exact Nat.le_one_iff_eq_zero_or_eq_one

/-- R473's `Valid(img)`, each byte as a number. -/
theorem imageValid_iff (img : List Byte) : imageValid img = true ↔
    img.length = 14 ∧ (∀ n < 13, (img.getD n 0).toNat < 16) ∧ (img.getD 13 0).toNat ≤ 1 := by
  simp only [imageValid, Bool.and_eq_true, Bool.or_eq_true, beq_iff_eq, and_assoc, byte_toNat_le_one_iff]
  refine and_congr_right fun hlen => and_congr_left fun _ => ?_
  rw [all_take_iff (by omega) _ 0]
  simp only [beq_iff_eq, highNibble_eq_zero_iff]

/-! What a power-on loads (R471) -/

section
variable {img : List Byte}

theorem loadedImage_valid (h : imageValid img = true) : loadedImage (some img) = some img :=
  Option.filter_some_pos h

theorem loadedImage_invalid (h : ¬ imageValid img = true) : loadedImage (some img) = none :=
  Option.filter_some_neg (Bool.eq_false_of_not_eq_true h)

theorem powerOnNib_valid (h : imageValid img = true) (n : Fin 13) :
    (powerOnNib (some img))[n] = imageNibble img n.val := by
  simp [powerOnNib, loadedImage_valid h]

theorem powerOnLost_valid (h : imageValid img = true) : powerOnLost (some img) = (img.getD 13 0).getLsbD 0 := by
  rw [powerOnLost, loadedImage_valid h]

/-- An invalid image is no image: the power-on is a cold start. -/
theorem powerOn_invalid (h : ¬ imageValid img = true) : Chip.powerOn (some img) = Chip.powerOn none := by
  rw [Chip.powerOn, powerOnNib, powerOnLost, loadedImage_invalid h]
  rfl

end

theorem powerOn_none_nib (n : Fin 13) : (Chip.powerOn none).rtc.nib[n] = 0 := Vector.getElem_replicate n.isLt

theorem powerOn_none_lost : (Chip.powerOn none).rtc.lost = true := rfl

theorem imageNibble_toNat {img : List Byte} {n : Nat} (h : (img.getD n 0).toNat < 16) :
    (imageNibble img n).toNat = (img.getD n 0).toNat := by
  rw [imageNibble, toNat_slice]
  omega

/-! The image the host takes (R473) -/

section
variable (r : Rtc)

theorem rtcImageOf_length : (rtcImageOf r).length = 14 := by simp [rtcImageOf]

theorem rtcImageOf_cell (n : Fin 13) : (rtcImageOf r)[n.val]? = some (0#4 ++ r.nib[n]) := by
  simp [rtcImageOf, List.getElem?_append_left, asByte_nibble]

theorem rtcImageOf_flag : (rtcImageOf r)[13]? = some (if r.lost = true then 0x01 else 0x00) := by
  simp [rtcImageOf, bitAt_zero_eq]

theorem rtcImageOf_getD_cell (n : Fin 13) : (rtcImageOf r).getD n.val 0 = 0#4 ++ r.nib[n] := by
  rw [List.getD_eq_getElem?_getD, rtcImageOf_cell, Option.getD_some]

theorem rtcImageOf_getD_flag : (rtcImageOf r).getD 13 0 = if r.lost = true then 0x01 else 0x00 := by
  rw [List.getD_eq_getElem?_getD, rtcImageOf_flag, Option.getD_some]

/-- A nibble with four 0 bits above it is below 16, and the flag's byte is 0 or 1. -/
theorem rtcImageOf_valid : imageValid (rtcImageOf r) = true := by
  refine (imageValid_iff _).2 ⟨rtcImageOf_length r, fun n hn => ?_, ?_⟩
  · rw [rtcImageOf_getD_cell r ⟨n, hn⟩]
    rw [BitVec.toNat_append]
    simpa using (r.nib[n]).isLt
  · rw [rtcImageOf_getD_flag]
    split <;> decide

theorem imageNibble_rtcImageOf (n : Fin 13) : imageNibble (rtcImageOf r) n.val = r.nib[n] := by
  rw [imageNibble, rtcImageOf_getD_cell]
  exact BitVec.extractLsb'_append_eq_right

theorem powerOnNib_rtcImageOf : powerOnNib (some (rtcImageOf r)) = r.nib :=
  Vector.ext fun n hn =>
    (powerOnNib_valid (rtcImageOf_valid r) ⟨n, hn⟩).trans (imageNibble_rtcImageOf r ⟨n, hn⟩)

theorem powerOnLost_rtcImageOf : powerOnLost (some (rtcImageOf r)) = r.lost := by
  rw [powerOnLost_valid (rtcImageOf_valid r), rtcImageOf_getD_flag]
  cases r.lost <;> rfl

end

end Sys2Proof.Machine
end

section
/-! The statements about the power-on and the persisted image, settled. -/

namespace Sys2Proof.Machine

/-- Settles O56: the statement's validity is the model's, and an image without it is a cold start. -/
theorem powerOnLoadsTheImage : Obligations.PowerOnLoadsTheImage := by
  refine ⟨rfl, fun _ => ⟨fun _ => rfl, rfl⟩, powerOn_none_nib, powerOn_none_lost, ?_⟩
  refine fun img => ⟨?_, ?_⟩
  · intro h
    have hvalid := (imageValid_iff img).2 h
    obtain ⟨-, hcells, hflag⟩ := h
    constructor
    · intro n
      exact (congrArg BitVec.toNat (powerOnNib_valid hvalid n)).trans (imageNibble_toNat (hcells n n.isLt))
    · have hlost : (Chip.powerOn (some img)).rtc.lost = (img.getD 13 0).getLsbD 0 := powerOnLost_valid hvalid
      rw [hlost]
      obtain hclear | hset := (byte_toNat_le_one_iff _).1 hflag
      · rw [hclear]; decide
      · rw [hset]; decide
  · intro h
    rw [powerOn_invalid (mt (imageValid_iff img).1 h)]
    exact ⟨powerOn_none_nib, powerOn_none_lost⟩

/-- Settles O57: the image taken is valid, and each of its bytes loads the value it was taken from. -/
theorem persistedImageRestoresTheClock : Obligations.PersistedImageRestoresTheClock := fun r =>
  ⟨rtcImageOf_length r, rtcImageOf_cell r, rtcImageOf_flag r, powerOnNib_rtcImageOf r, powerOnLost_rtcImageOf r⟩

end Sys2Proof.Machine
end
